-- ==== Sys2Proof/Word.lean ====
section
/-! DEFINITION. The word types of the machine: the 64-bit register word, the 8-bit byte, the 64-bit program
slot, and the 32-bit and 16-bit instruction fields (R6, R12, R21, R40, R70). Arithmetic on them is in
Machine/Arith.lean, where a later repair can reach it. -/
namespace Sys2Proof

/-- A register value or a data address: 64 bits (R21, R40). -/
abbrev Word := BitVec 64

/-- The smallest addressable unit of data memory: 8 bits (R40). -/
abbrev Byte := BitVec 8

/-- The `imm` and `next_imm` fields of an instruction: 32 bits (R75, R77). -/
abbrev Imm := BitVec 32

/-- The `offset` field of an instruction: 16 bits (R74). -/
abbrev Off := BitVec 16

/-- One 64-bit unit of program text as it lies in program memory: byte `i` of the slot, counted from the
lowest address, is bits `8i+7:8i` (R70, R71). -/
abbrev Slot := BitVec 64

/-- The canonical instruction word `W` of a slot, the same for both byte orders (R76). -/
abbrev InsnWord := BitVec 64

end Sys2Proof
end

