-- ==== Sys2Proof/Config.lean ====
section
/-! DEFINITION. What an implementation or a platform fixes (the parameters of R7), as plain data, and the one
free value of the model. The values stand in the machine's state (field `plat` of State), so that a statement
over every state is a statement over every implementation; no step changes them. -/
namespace Sys2Proof

/-- `HOST_ENDIAN` (R7, R42; decision D1): the byte order of instruction fields and of data. -/
inductive Endian where
  | little
  | big
  deriving DecidableEq, Repr, Inhabited

/-- The seven conformance groups (R3). -/
inductive Group where
  | base32
  | base64
  | atomic32
  | atomic64
  | divmul32
  | divmul64
  | packet
  deriving DecidableEq, Repr, Inhabited

/-- The eleven general registers as operands (R20). A register number of 11 to 15 names no register, so there
is no constructor for it (R88). -/
inductive RegIdx where
  | r0 | r1 | r2 | r3 | r4 | r5 | r6 | r7 | r8 | r9 | r10
  deriving DecidableEq, Repr, Inhabited

/-- The access widths (R47, R82): byte, half word, word, double word. -/
inductive Size where
  | b
  | h
  | w
  | dw
  deriving DecidableEq, Repr, Inhabited

/-- The kinds of data access that `MemOK` tells apart (R49). -/
inductive AccessKind where
  | read
  | write
  | atomic
  deriving DecidableEq, Repr, Inhabited

/-- `CALL_FRAME` (R7, R262; decision D17): what a program-local call keeps besides the return slot. -/
inductive CallFrame where
  | bare
  | saved
  deriving DecidableEq, Repr, Inhabited

/-- The two spaces of helper ids: static ID and BTF ID (R261, R263). -/
inductive HelperKind where
  | staticId
  | btfId
  deriving DecidableEq, Repr, Inhabited

/-- What a register holds: a 64-bit value, or nothing because nothing has written it (R24). -/
inductive Reg where
  | unwritten
  | val (v : Word)
  deriving DecidableEq, Repr, Inhabited

/-- The register file `x[0]` to `x[10]` (R20, R21). Read as a parameter it is a partial map from register
numbers to values: `ENTRY_REGS` of R7. -/
structure RegFile where
  r0  : Reg
  r1  : Reg
  r2  : Reg
  r3  : Reg
  r4  : Reg
  r5  : Reg
  r6  : Reg
  r7  : Reg
  r8  : Reg
  r9  : Reg
  r10 : Reg
  deriving DecidableEq, Repr, Inhabited

/-- A run of consecutive byte addresses, modulo `2^64`. -/
structure Span where
  base : Word
  size : Nat
  deriving DecidableEq, Repr, Inhabited

/-- One region the platform admits accesses to, for the kinds and the widths it lists. `MemOK(addr, n, kind)`
of R49 holds when one grant covers every byte of the access (notes/assumptions/6.md). A grant of the bytes of
one single access is allowed, so lists of grants express every `MemOK` that admits finitely many
accesses, and whole regions besides. -/
structure Grant where
  span   : Span
  kinds  : List AccessKind
  widths : List Size
  deriving DecidableEq, Repr, Inhabited

/-- The parameters of R7 that stay fixed for a run. `PROG` and `ENTRY_REGS` are not here: the program is the
state's field `prog`, the entry registers are an argument of `State.entry`; `ENV` and the replies of
`HELPERS` are input tapes of the state, arguments of `State.entry` too. -/
structure Platform where
  /-- `HOST_ENDIAN` (D1). -/
  endian       : Endian
  /-- `GROUPS` (D2): the groups named; the set supported is their closure under the inclusions of R3,
  with `base32` always in it. -/
  groups       : List Group
  /-- `STRICT_ALIGN` (D13). -/
  strictAlign  : Bool
  /-- `MemOK` (D12). -/
  grants       : List Grant
  /-- The bytes the platform marks shared, which `ENV` may change (R53). -/
  shared       : List Span
  /-- `MAX_CALL_DEPTH` (D17); `none` is unbounded. -/
  maxCallDepth : Option Nat
  /-- `CALL_FRAME` (D17). -/
  callFrame    : CallFrame
  /-- The domain of `HELPERS` (D18): the (kind, id) pairs that name a helper. -/
  helpers      : List (HelperKind × Imm)
  /-- `map_by_fd` (R341, D20). -/
  mapByFd      : List (Imm × Word)
  /-- `map_by_idx` (R341, D20). -/
  mapByIdx     : List (Imm × Word)
  /-- `map_val` (R341, D20). -/
  mapVal       : List (Word × Word)
  /-- `var_addr` (R341, D20). -/
  varAddr      : List (Imm × Word)
  /-- `code_addr` (R341, D20), a function of the instruction's slot index and `imm`. -/
  codeAddr     : List ((Int × Imm) × Word)
  deriving DecidableEq, Repr, Inhabited

/-- What a helper answers (R261): it refuses (`HelperFault`), or it leaves a register file and a data memory.
The memory after is given by the bytes the helper wrote, in order. -/
inductive HelperReply where
  | fault
  | done (regs : RegFile) (writes : List (Word × Byte))
  deriving DecidableEq, Repr, Inhabited

/-- A byte of data memory that no entry of the memory list names reads as this
(DESIGN CHOICE, unsafe: notes/assumptions/5.md). -/
def Config.unlistedByte : Byte := 0#8

/-- FREE VALUE (DESIGN CHOICE: notes/assumptions/11.md): what a helper of the domain answers when the state's
tape of replies is empty, as a function of the helper, a counter, the registers and the data memory. It has
no body: nothing can be proved of its value. -/
opaque Config.helperReply : HelperKind → Imm → Nat → RegFile → List Host.Cell → HelperReply

end Sys2Proof
end

