-- ==== Sys2Proof/Machine/Arith.lean ====
section
/-! DEFINITION. The arithmetic laws of the spec (R10, R11, R100 to R103, R134), as operations on N-bit vectors
computed exactly in the integers and narrowed at the end. -/
namespace Sys2Proof.Machine

/-- ADD: `(U(a) + U(b)) mod 2^N` (R100). -/
def addN {n : Nat} (a b : BitVec n) : BitVec n :=
  BitVec.ofNat n (a.toNat + b.toNat)

/-- SUB: `(U(a) - U(b)) mod 2^N` (R100). -/
def subN {n : Nat} (a b : BitVec n) : BitVec n :=
  BitVec.ofInt n ((a.toNat : Int) - (b.toNat : Int))

/-- MUL: `(U(a) * U(b)) mod 2^N` (R100). -/
def mulN {n : Nat} (a b : BitVec n) : BitVec n :=
  BitVec.ofNat n (a.toNat * b.toNat)

/-- NEG: `(0 - U(a)) mod 2^N` (R100). -/
def negN {n : Nat} (a : BitVec n) : BitVec n :=
  BitVec.ofInt n (0 - (a.toNat : Int))

/-- OR, bit by bit (R100). -/
def orN {n : Nat} (a b : BitVec n) : BitVec n := a ||| b

/-- AND, bit by bit (R100). -/
def andN {n : Nat} (a b : BitVec n) : BitVec n := a &&& b

/-- XOR, bit by bit (R100). -/
def xorN {n : Nat} (a b : BitVec n) : BitVec n := a ^^^ b

/-- DIV: the floor quotient of the unsigned readings, 0 for a zero divisor (R103). -/
def divN {n : Nat} (a b : BitVec n) : BitVec n :=
  if b.toNat = 0 then 0 else BitVec.ofNat n (a.toNat / b.toNat)

/-- MOD: `U(a) - U(b) * floor(U(a) / U(b))`, the dividend for a zero divisor (R103). -/
def modN {n : Nat} (a b : BitVec n) : BitVec n :=
  if b.toNat = 0 then a else BitVec.ofNat n (a.toNat - b.toNat * (a.toNat / b.toNat))

/-- SDIV: the quotient of the signed readings rounded toward zero, 0 for a zero divisor; `-2^(N-1) / -1` wraps
(R103, decision D28). -/
def sdivN {n : Nat} (a b : BitVec n) : BitVec n :=
  if b.toNat = 0 then 0 else BitVec.ofInt n (a.toInt.tdiv b.toInt)

/-- SMOD: `S(a) - S(b) * trunc(S(a) / S(b))`, the dividend for a zero divisor (R103). -/
def smodN {n : Nat} (a b : BitVec n) : BitVec n :=
  if b.toNat = 0 then a else BitVec.ofInt n (a.toInt - b.toInt * a.toInt.tdiv b.toInt)

/-- The shift count of an N-bit operation: the operand under the mask `N - 1`, that is `0x1F` for 32 bits and
`0x3F` for 64 (R102, R143). -/
def shiftCount {n : Nat} (b : BitVec n) : Nat :=
  (b &&& BitVec.ofNat n (n - 1)).toNat

/-- LSH by the masked count (R102). -/
def lshN {n : Nat} (a b : BitVec n) : BitVec n :=
  BitVec.ofNat n (a.toNat * 2 ^ shiftCount b)

/-- RSH by the masked count: `floor(U(a) / 2^c)` (R102). -/
def rshN {n : Nat} (a b : BitVec n) : BitVec n :=
  BitVec.ofNat n (a.toNat / 2 ^ shiftCount b)

/-- ARSH by the masked count: `floor(S(a) / 2^c)`, the sign bit filling from the left (R102, R134). -/
def arshN {n : Nat} (a b : BitVec n) : BitVec n :=
  BitVec.ofInt n (a.toInt / (2 ^ shiftCount b : Nat))

/-- `zext_64` (R12). -/
def zext64 {n : Nat} (v : BitVec n) : Word := v.setWidth 64

/-- `sext_64` (R11): the low bits are the value's, every other bit is its most significant bit. -/
def sext64 {n : Nat} (v : BitVec n) : Word := v.signExtend 64

/-- `trunc_32`, the `w(i)` of R13. -/
def low32 (v : Word) : BitVec 32 := v.setWidth 32

/-- The low 8, 16 or 32 bits of a register sign-extended to the operation's width (R132, R133, R171 to R173). -/
def signExtendLow (from_ n : Nat) (v : Word) : BitVec n := (v.setWidth from_).signExtend n

/-- The number whose base-256 digits, least significant first, are the bytes. -/
def natOfBytes : List Byte → Nat
  | [] => 0
  | b :: bs => b.toNat + 256 * natOfBytes bs

/-- The `k` bytes of a value, least significant first: byte `i` is bits `8i+7:8i`. -/
def bytesOf {n : Nat} (k : Nat) (v : BitVec n) : List Byte :=
  (List.range k).map fun i => v.extractLsb' (8 * i) 8

/-- `bswapN` (R10) at `N = 8 * k`: byte `i` of the result is byte `k - 1 - i` of the value. -/
def bswapN {n : Nat} (k : Nat) (v : BitVec n) : BitVec n :=
  BitVec.ofNat n (natOfBytes (bytesOf k v).reverse)

/-- `leN` (R10): the identity on a little-endian host, the byte swap on a big-endian one. -/
def leN {n : Nat} (e : Endian) (k : Nat) (v : BitVec n) : BitVec n :=
  match e with
  | .little => v
  | .big => bswapN k v

/-- `beN` (R10): the identity on a big-endian host, the byte swap on a little-endian one. -/
def beN {n : Nat} (e : Endian) (k : Nat) (v : BitVec n) : BitVec n :=
  match e with
  | .little => bswapN k v
  | .big => v

end Sys2Proof.Machine
end

