-- ==== Sys2Proof/Machine/State.lean ====
section
/-! DEFINITION. The state of the machine as plain data, the faults the spec names, the reasons the model itself
stops for, and the state at entry (R20 to R37, R402, R450). -/
namespace Sys2Proof.Machine

/-- Data memory (R31, R40): the bytes that differ from `Config.unlistedByte`, as (address, byte) pairs with
strictly rising addresses below `2^64` (`memoryWf` in Machine/Ops.lean). -/
abbrev Memory := List Host.Cell

/-- The platform functions of the 64-bit immediate instructions (R341). -/
inductive LookupFn where
  | mapByFd
  | mapByIdx
  | mapVal
  | varAddr
  | codeAddr
  deriving DecidableEq, Repr

/-- The argument a platform function was undefined at (R402 code 9): 32 bits, a map address, or the pair that
`code_addr` takes. -/
inductive LookupArg where
  | imm (v : Imm)
  | map (address : Word)
  | code (pc : Int) (v : Imm)
  deriving DecidableEq, Repr

/-- The faults of the spec with what each records (R402). They are states of the machine, not stops of the
model: raising one is a next state whose status is `faulted` (R401). -/
inductive Cause where
  /-- Code 1, by the fetch (R404). -/
  | pcOutOfRange (pc : Int)
  /-- Code 2, by the decoder (R403, R406). -/
  | illegalInstruction (pc : Int)
  /-- Code 3, by a register read (R405). -/
  | uninitRegister (i : RegIdx)
  /-- Code 4, by a load, a store or an atomic (R408). -/
  | misaligned (addr : Word) (n : Size) (kind : AccessKind)
  /-- Code 5, by a load, a store or an atomic (R407). -/
  | memFault (addr : Word) (n : Size) (kind : AccessKind)
  /-- Code 6, by `CALL_LOCAL` (R409). -/
  | callDepthExceeded (pc : Int)
  /-- Code 7, by `CALL_HELPER` and `CALL_BTF` (R409). -/
  | unknownHelper (kind : HelperKind) (id : Imm)
  /-- Code 8, by a helper (R409). -/
  | helperFault (kind : HelperKind) (id : Imm)
  /-- Code 9, by the `LDDW` lookups (R409). -/
  | platformLookupFault (fn : LookupFn) (arg : LookupArg)
  deriving DecidableEq, Repr

/-- The code of a fault (R402). -/
def Cause.code : Cause → Nat
  | .pcOutOfRange _ => 1
  | .illegalInstruction _ => 2
  | .uninitRegister _ => 3
  | .misaligned _ _ _ => 4
  | .memFault _ _ _ => 5
  | .callDepthExceeded _ => 6
  | .unknownHelper _ _ => 7
  | .helperFault _ _ => 8
  | .platformLookupFault _ _ => 9

/-- The run status `st` (R34). -/
inductive RunStatus where
  | running
  | exited
  | faulted (cause : Cause) (pc : Int)
  deriving DecidableEq, Repr

/-- The registers a program-local call keeps under `CALL_FRAME = saved` (R262): `x[6]` to `x[10]`, each
possibly unwritten. -/
structure SavedRegs where
  r6  : Reg
  r7  : Reg
  r8  : Reg
  r9  : Reg
  r10 : Reg
  deriving DecidableEq, Repr

/-- One entry of the call stack (R33, R262): the return slot, and the saved registers where the call kept them. -/
structure Frame where
  ret   : Int
  saved : Option SavedRegs
  deriving DecidableEq, Repr

/-- The machine's state. -/
structure State where
  /-- `x[0]` to `x[10]` (R20, R21, R24). -/
  regs      : RegFile
  /-- The program counter: a slot index, an unbounded integer (R26, R404). -/
  pc        : Int
  /-- The call stack, newest entry first (R33). -/
  cs        : List Frame
  /-- The run status (R34). -/
  st        : RunStatus
  /-- Data memory (R31, R40). -/
  mem       : Memory
  /-- The program text `PROG` of `N = prog.length` slots, fixed for a run (R32, R58). -/
  prog      : List Slot
  /-- The platform's parameters, fixed for a run (R7, R36). -/
  plat      : Platform
  /-- `ENV` (R53, R418), as an input tape: the bytes other agents write before each coming instruction. -/
  env       : List (List (Word × Byte))
  /-- What the coming helper calls answer (R261), as an input tape. -/
  replies   : List HelperReply
  /-- The MODEL's own field: how many helper calls have completed; it numbers the free values
  `Config.helperReply` (notes/assumptions/11.md). -/
  freeCount : Nat
  deriving DecidableEq, Repr

/-- Why a step answers no state. The spec's own faults are not here: they are next states (`Cause`). -/
inductive Fault where
  /-- Raised by `step` when the status is `exited`: "no further step exists" (R264). Safe: the run is over. -/
  | runExited
  /-- Raised by `step` when the status is `faulted`: "no further step exists" (R401). Safe: the run is over. -/
  | runFaulted
  deriving DecidableEq, Repr

/-- Why the model has no meaning for an instruction. -/
inductive Refusal where
  /-- Raised by an arm of `exec` whose instruction has no meaning yet; no arm does. Safe: nothing is claimed. -/
  | notModelled (mnemonic : String)
  /-- Raised by the six legacy packet instructions when `packet` is in `GROUPS`: the spec gives them no semantics
  and forbids guessing one (R361). Safe: nothing is claimed. -/
  | packetSemantics (mnemonic : String)
  deriving DecidableEq, Repr

/-- A register file in which no register has been written. -/
def noRegs : RegFile :=
  ⟨.unwritten, .unwritten, .unwritten, .unwritten, .unwritten, .unwritten, .unwritten, .unwritten, .unwritten,
    .unwritten, .unwritten⟩

/-- The state at entry (R37, R450), for any program, parameters, entry registers (those outside the domain of
`ENTRY_REGS` are `unwritten`), initial memory and input tapes: slot 0, empty call stack, `Running`. `ENV` and
`HELPERS` are open (R7; D15, D18) and stay open here: what they will do in the run are the arguments `env` and
`replies`, of any length; that they are tapes is the model's form of the two relations (DESIGN CHOICE:
notes/assumptions/9.md and 10.md). The counter of free values, the model's own field, begins at 0
(DESIGN CHOICE: notes/assumptions/11.md). -/
def State.entry (plat : Platform) (prog : List Slot) (entryRegs : RegFile) (mem : Memory)
    (env : List (List (Word × Byte))) (replies : List HelperReply) : State where
  regs := entryRegs
  pc := 0
  cs := []
  st := .running
  mem := mem
  prog := prog
  plat := plat
  env := env
  replies := replies
  freeCount := 0

/-- The whole 64-bit address space. -/
def wholeSpace : Span := ⟨0, 2 ^ 64⟩

/-- The default parameters: the spec's own defaults where it states one (little endian for examples, all
groups but `packet`, `STRICT_ALIGN = true`, `CALL_FRAME = bare`; D1, D2, D13, D17), the model's choice
elsewhere (DESIGN CHOICE, unsafe: notes/assumptions/1.md to 12.md). -/
def defaultPlatform : Platform where
  endian := .little
  groups := [.base32, .base64, .atomic32, .atomic64, .divmul32, .divmul64]
  strictAlign := true
  grants := [⟨wholeSpace, [.read, .write, .atomic], [.b, .h, .w, .dw]⟩]
  shared := []
  maxCallDepth := none
  callFrame := .bare
  helpers := []
  mapByFd := []
  mapByIdx := []
  mapVal := []
  varAddr := []
  codeAddr := []

/-- `ENTRY_REGS` at reset: the platform has written zero to all eleven registers
(DESIGN CHOICE, unsafe: notes/assumptions/3.md). -/
def resetRegs : RegFile :=
  ⟨.val 0, .val 0, .val 0, .val 0, .val 0, .val 0, .val 0, .val 0, .val 0, .val 0, .val 0⟩

/-- The machine right after reset (R37, R450) under the default parameters, with no program and no byte of
memory listed, and with both input tapes empty (DESIGN CHOICE: notes/assumptions/9.md and 10.md). -/
def State.reset : State :=
  State.entry defaultPlatform [] resetRegs [] [] []

end Sys2Proof.Machine
end

