-- ==== Sys2Proof/Machine/Ops.lean ====
section
/-! DEFINITION. The named operations over registers, data memory, the call stack, the platform and the run
status; raising a fault (R401) is one of them. No instruction touches the state except through these. -/
namespace Sys2Proof.Machine

/-- What executing an instruction answers. -/
abbrev Result := Host.Outcome State Fault Refusal

/-! ## Registers (R20 to R25) -/

/-- What `x[i]` holds. -/
def getReg (x : RegFile) : RegIdx → Reg
  | .r0 => x.r0
  | .r1 => x.r1
  | .r2 => x.r2
  | .r3 => x.r3
  | .r4 => x.r4
  | .r5 => x.r5
  | .r6 => x.r6
  | .r7 => x.r7
  | .r8 => x.r8
  | .r9 => x.r9
  | .r10 => x.r10

/-- The register file with `x[i]` replaced. Every register number is legal: none is hardwired or
read-only (R22). -/
def putReg (x : RegFile) (i : RegIdx) (r : Reg) : RegFile :=
  match i with
  | .r0 => { x with r0 := r }
  | .r1 => { x with r1 := r }
  | .r2 => { x with r2 := r }
  | .r3 => { x with r3 := r }
  | .r4 => { x with r4 := r }
  | .r5 => { x with r5 := r }
  | .r6 => { x with r6 := r }
  | .r7 => { x with r7 := r }
  | .r8 => { x with r8 := r }
  | .r9 => { x with r9 := r }
  | .r10 => { x with r10 := r }

/-- `x[i] <- v` (R13): the register holds the value and counts as written, whatever it held (R24). -/
def setReg (s : State) (i : RegIdx) (v : Word) : State :=
  { s with regs := putReg s.regs i (.val v) }

/-! ## The program counter and the run status -/

/-- `pc <- t` (R26). -/
def jumpTo (s : State) (t : Int) : State :=
  { s with pc := t }

/-- `pc <- pc + 1` (R27). -/
def advance (s : State) : State :=
  jumpTo s (s.pc + 1)

/-- `raise F(info)` (R401, R412): the run stops with `st = Faulted(F(info), p)`, `p` the slot of the faulting
instruction. No register, no byte of memory and no entry of the call stack changes, `pc` keeps its value,
nothing is saved and control goes nowhere. -/
def raise (c : Cause) (s : State) : State :=
  { s with st := .faulted c s.pc }

/-- `st <- Exited` (R264): `pc` is left where it is. -/
def endRun (s : State) : State :=
  { s with st := .exited }

/-- Read `x[i]` and go on with its value; an unwritten register raises `UninitRegister(i)` (R24, R405). -/
def readReg (i : RegIdx) (s : State) (k : Word → State) : State :=
  match getReg s.regs i with
  | .val v => k v
  | .unwritten => raise (.uninitRegister i) s

/-- Go on with the result of an operation, or raise the fault it met. -/
def orRaise {α : Type} (r : Except Cause α) (s : State) (k : α → State) : State :=
  match r with
  | .ok v => k v
  | .error c => raise c s

/-! ## Sizes -/

/-- The bytes of an access width (R40, R47). -/
abbrev sizeBytes : Size → Nat
  | .b => 1
  | .h => 2
  | .w => 4
  | .dw => 8

/-- The bits of an access width. -/
abbrev sizeBits (z : Size) : Nat := 8 * sizeBytes z

/-! ## Bytes of data memory (R40, R45) -/

/-- The byte at an address. -/
def readByte : Memory → Nat → Byte
  | [], _ => Config.unlistedByte
  | c :: m, a => if c.1 = a then c.2 else readByte m a

/-- The list with the byte put first, unless it is what an unlisted address reads as. -/
def consCell (a : Nat) (b : Byte) (m : Memory) : Memory :=
  if b = Config.unlistedByte then m else (a, b) :: m

/-- The memory after one byte is written, in canonical form. -/
def writeByte : Memory → Nat → Byte → Memory
  | [], a, b => consCell a b []
  | c :: m, a, b =>
    if a < c.1 then consCell a b (c :: m)
    else if a = c.1 then consCell a b m
    else c :: writeByte m a b

/-- The memory list is canonical from address `lo` on: addresses strictly rising, at least `lo` and below `2^64`,
no entry equal to what an unlisted address reads as. -/
def memoryWfFrom : Nat → Memory → Bool
  | _, [] => true
  | lo, c :: m => decide (lo ≤ c.1) && decide (c.1 < 2 ^ 64) && c.2 != Config.unlistedByte && memoryWfFrom (c.1 + 1) m

/-- The memory list is in canonical form. -/
def memoryWf (m : Memory) : Bool := memoryWfFrom 0 m

/-- The memory address of byte `i` of an access: `(addr + i) mod 2^64` (R43). -/
def byteAddr (a : Word) (i : Nat) : Nat := (a + BitVec.ofNat 64 i).toNat

/-- The bytes of an access in address order (R43). -/
def readBytes (m : Memory) (a : Word) (k : Nat) : List Byte :=
  (List.range k).map fun i => readByte m (byteAddr a i)

/-- Bytes written at consecutive addresses modulo `2^64`, the first at `a` (R44). -/
def writeBytes (m : Memory) (a : Word) : List Byte → Memory
  | [] => m
  | b :: bs => writeBytes (writeByte m a.toNat b) (a + 1) bs

/-- Bytes between address order and least-significant-first order: the same on a little-endian host, reversed
on a big-endian one (R43, R44). -/
def hostOrder (e : Endian) (bs : List Byte) : List Byte :=
  match e with
  | .little => bs
  | .big => bs.reverse

/-- The value at an address in host byte order (R43 step 3). -/
def loadValue (e : Endian) (m : Memory) (a : Word) (z : Size) : BitVec (sizeBits z) :=
  BitVec.ofNat (sizeBits z) (natOfBytes (hostOrder e (readBytes m a (sizeBytes z))))

/-- The memory after a value is written at an address in host byte order (R44 step 3). -/
def storeValue (e : Endian) (m : Memory) (a : Word) (z : Size) (v : BitVec (sizeBits z)) : Memory :=
  writeBytes m a (hostOrder e (bytesOf (sizeBytes z) v))

/-! ## The platform's admission of accesses (R49) -/

/-- The address lies in the span, counted modulo `2^64` from its base. -/
def spanHolds (r : Span) (a : Word) : Bool := decide ((a - r.base).toNat < r.size)

/-- The grant admits the access: its kind, its width and every byte of it. -/
def grantAdmits (g : Grant) (a : Word) (z : Size) (k : AccessKind) : Bool :=
  decide (k ∈ g.kinds) && decide (z ∈ g.widths)
    && (List.range (sizeBytes z)).all fun i => spanHolds g.span (a + BitVec.ofNat 64 i)

/-- `MemOK(addr, n, kind)` (R49): one grant admits the access as a whole (R407). -/
def memOK (p : Platform) (a : Word) (z : Size) (k : AccessKind) : Bool :=
  p.grants.any fun g => grantAdmits g a z k

/-- The checks of an access in their order (R411): alignment, for a plain access only under `STRICT_ALIGN` and
for an atomic always (R46, R55), then `MemOK`. -/
def checkAccess (p : Platform) (a : Word) (z : Size) (k : AccessKind) : Except Cause Unit :=
  if (k = .atomic ∨ p.strictAlign = true) ∧ a.toNat % sizeBytes z ≠ 0 then .error (.misaligned a z k)
  else if memOK p a z k then .ok ()
  else .error (.memFault a z k)

/-! ## The memory primitives (R43, R44, R55) -/

/-- Data memory replaced, nothing else. -/
def setMem (s : State) (m : Memory) : State :=
  { s with mem := m }

/-- `MemRead(addr, n)` (R43). It changes nothing (R50). -/
def memRead (s : State) (a : Word) (z : Size) : Except Cause (BitVec (sizeBits z)) :=
  match checkAccess s.plat a z .read with
  | .error c => .error c
  | .ok () => .ok (loadValue s.plat.endian s.mem a z)

/-- `MemWrite(addr, n, v)` (R44). -/
def memWrite (s : State) (a : Word) (z : Size) (v : BitVec (sizeBits z)) : Except Cause State :=
  match checkAccess s.plat a z .write with
  | .error c => .error c
  | .ok () => .ok (setMem s (storeValue s.plat.endian s.mem a z v))

/-- `AtomicRMW(addr, n, f)` (R55): the value read, and the state after `f` of it is written; one step, with
nothing between the two. -/
def atomicRMW (s : State) (a : Word) (z : Size) (f : BitVec (sizeBits z) → BitVec (sizeBits z)) :
    Except Cause (BitVec (sizeBits z) × State) :=
  match checkAccess s.plat a z .atomic with
  | .error c => .error c
  | .ok () =>
    let old := loadValue s.plat.endian s.mem a z
    .ok (old, setMem s (storeValue s.plat.endian s.mem a z (f old)))

/-! ## Bytes written by others -/

/-- Single bytes written one after another. -/
def writeList (m : Memory) : List (Word × Byte) → Memory
  | [] => m
  | w :: ws => writeList (writeByte m w.1.toNat w.2) ws

/-- The platform marks the byte shared (R53). -/
def isShared (p : Platform) (a : Word) : Bool := p.shared.any fun r => spanHolds r a

/-- One firing of `ENV` (R53, R418): the next entry of the tape is taken and its bytes are written, those that
are shared and no other. With the tape empty nothing happens. -/
def envTick (s : State) : State :=
  match s.env with
  | [] => s
  | ws :: rest => { s with env := rest, mem := writeList s.mem (ws.filter fun w => isShared s.plat w.1) }

/-! ## The call stack (R33, R262, R264) -/

/-- `length(cs) >= MAX_CALL_DEPTH`; never with an unbounded depth (R262, R409). -/
def callStackFull (s : State) : Bool :=
  match s.plat.maxCallDepth with
  | none => false
  | some n => decide (n ≤ s.cs.length)

/-- The current values of `x[6]` to `x[10]`, each possibly unwritten (R262). -/
def saveRegs (x : RegFile) : SavedRegs := ⟨x.r6, x.r7, x.r8, x.r9, x.r10⟩

/-- The register file with `x[6]` to `x[10]` as they were saved, each unwritten if it was (R264). -/
def restoreRegs (x : RegFile) (f : SavedRegs) : RegFile :=
  { x with r6 := f.r6, r7 := f.r7, r8 := f.r8, r9 := f.r9, r10 := f.r10 }

/-- `frame(r)` of R262: the return slot, with the saved registers when `CALL_FRAME = saved`. -/
def makeFrame (s : State) (ret : Int) : Frame :=
  match s.plat.callFrame with
  | .bare => ⟨ret, none⟩
  | .saved => ⟨ret, some (saveRegs s.regs)⟩

/-- `push(cs, frame(r))` (R262). -/
def pushFrame (s : State) (ret : Int) : State :=
  { s with cs := makeFrame s ret :: s.cs }

/-- The registers after a return through the frame (R264): restored under `CALL_FRAME = saved`, else as they
are. A frame without saved registers restores none (notes/assumptions/8.md). -/
def returnRegs (s : State) (f : Frame) : RegFile :=
  match s.plat.callFrame, f.saved with
  | .saved, some r => restoreRegs s.regs r
  | _, _ => s.regs

/-- `f = pop(cs)` with the registers after the return (R264). -/
def popFrame (s : State) (f : Frame) (rest : List Frame) : State :=
  { s with regs := returnRegs s f, cs := rest }

/-! ## Helpers (R261, R263) -/

/-- What the helper answers now: the head of the tape of replies, or a free value when the tape is empty. -/
def nextReply (s : State) (kind : HelperKind) (id : Imm) : HelperReply :=
  match s.replies with
  | r :: _ => r
  | [] => Config.helperReply kind id s.freeCount s.regs s.mem

/-- The state after a helper left these registers and wrote these bytes; the reply is used up. A helper cannot
change `pc`, `cs` or the program text (R261). -/
def helperDone (s : State) (x : RegFile) (ws : List (Word × Byte)) : State :=
  { s with regs := x, mem := writeList s.mem ws, replies := s.replies.tail, freeCount := s.freeCount + 1 }

/-! ## Platform lookups (R341) -/

/-- A platform function at an argument, or `PlatformLookupFault(fn, arg)` where it is undefined (R341, R409). -/
def lookupOr {α : Type} [BEq α] (table : List (α × Word)) (key : α) (fn : LookupFn) (arg : LookupArg) :
    Except Cause Word :=
  match table.lookup key with
  | some v => .ok v
  | none => .error (.platformLookupFault fn arg)

end Sys2Proof.Machine
end

