-- ==== Sys2Proof/Machine/Operands.lean ====
section
/-! DEFINITION. How each operand of an instruction is assembled (R41, R90, R102, R141, R202). -/
namespace Sys2Proof.Machine

/-- Class ALU and JMP32, K: `imm` as 32 bits (R90, R102, R201). -/
def immOperand32 (imm : Imm) : BitVec 32 := imm

/-- Class ALU64 and JMP, K: `sext_64(imm)` (R90, R141, R201; decision D34). -/
def immOperand64 (imm : Imm) : Word := sext64 imm

/-- The effective address `(base + sext_64(off)) mod 2^64` (R41). -/
def effectiveAddress (base : Word) (off : Off) : Word := base + sext64 off

/-- The target `pc + 1 + S_16(off)` of JA and of every conditional jump, an integer sum that never
wraps (R202). -/
def offTarget (pc : Int) (off : Off) : Int := pc + 1 + off.toInt

/-- The target `pc + 1 + S_32(imm)` of JA32 and CALL_LOCAL (R202, R262). -/
def immTarget (pc : Int) (imm : Imm) : Int := pc + 1 + imm.toInt

/-- The value an ST instruction stores: the low `8n` bits of `sext_64(imm)` (R283; decision D24). -/
def storeImm (z : Size) (imm : Imm) : BitVec (sizeBits z) := (sext64 imm).setWidth (sizeBits z)

/-- The low bits of a register at an access width: what STX stores (R284) and an atomic operates with (R313). -/
def lowBits (z : Size) (v : Word) : BitVec (sizeBits z) := v.setWidth (sizeBits z)

/-- `next_imm ++ imm` (R90, R342; decision D25). -/
def wideImm (imm nextImm : Imm) : Word := nextImm ++ imm

end Sys2Proof.Machine
end

