-- ==== Sys2Proof/Machine/Alu32.lean ====
section
/-! DEFINITION. Class ALU, 32-bit arithmetic (spec/40_arithmetic_alu32.md): the operands are the low 32 bits, the
result is written zero-extended to 64 bits, always (R101). The byte swaps are in ByteSwap.lean. -/
namespace Sys2Proof.Machine

/-- Shape of a 32-bit operation with an immediate operand (R101, R102). -/
def alu32K (f : BitVec 32 → BitVec 32 → BitVec 32) (d : RegIdx) (imm : Imm) (s : State) : State :=
  readReg d s fun x => advance (setReg s d (zext64 (f (low32 x) (immOperand32 imm))))

/-- Shape of a 32-bit operation with a register operand: `d` is read before `r` (R25, R101, R411). -/
def alu32X (f : BitVec 32 → BitVec 32 → BitVec 32) (d r : RegIdx) (s : State) : State :=
  readReg d s fun x => readReg r s fun y => advance (setReg s d (zext64 (f (low32 x) (low32 y))))

/-- Shape of a 32-bit operation on the destination alone (R101, R123). -/
def alu32D (f : BitVec 32 → BitVec 32) (d : RegIdx) (s : State) : State :=
  readReg d s fun x => advance (setReg s d (zext64 (f (low32 x))))

/-- MOV with an immediate: the destination is written only, not read (R130). -/
def mov32K (d : RegIdx) (imm : Imm) (s : State) : State :=
  advance (setReg s d (zext64 (immOperand32 imm)))

/-- MOV with a register (R131). -/
def mov32X (d r : RegIdx) (s : State) : State :=
  readReg r s fun y => advance (setReg s d (zext64 (low32 y)))

/-- MOVSX: the low `bits` bits sign-extended to 32, then zero-extended to 64 (R132, R133). -/
def movsx32 (bits : Nat) (d r : RegIdx) (s : State) : State :=
  readReg r s fun y => advance (setReg s d (zext64 (signExtendLow bits 32 y)))

/-- `ADD32_K` {ADD, K, ALU} (R105). -/
def execAdd32K (d : RegIdx) (imm : Imm) (s : State) : Result :=
  .next (alu32K addN d imm s)

/-- `ADD32_X` {ADD, X, ALU} (R106). -/
def execAdd32X (d : RegIdx) (r : RegIdx) (s : State) : Result :=
  .next (alu32X addN d r s)

/-- `SUB32_K` {SUB, K, ALU} (R107). -/
def execSub32K (d : RegIdx) (imm : Imm) (s : State) : Result :=
  .next (alu32K subN d imm s)

/-- `SUB32_X` {SUB, X, ALU} (R108). -/
def execSub32X (d : RegIdx) (r : RegIdx) (s : State) : Result :=
  .next (alu32X subN d r s)

/-- `MUL32_K` {MUL, K, ALU} (R109). -/
def execMul32K (d : RegIdx) (imm : Imm) (s : State) : Result :=
  .next (alu32K mulN d imm s)

/-- `MUL32_X` {MUL, X, ALU} (R110). -/
def execMul32X (d : RegIdx) (r : RegIdx) (s : State) : Result :=
  .next (alu32X mulN d r s)

/-- `DIV32_K` {DIV, K, ALU} (R111). -/
def execDiv32K (d : RegIdx) (imm : Imm) (s : State) : Result :=
  .next (alu32K divN d imm s)

/-- `DIV32_X` {DIV, X, ALU} (R112). -/
def execDiv32X (d : RegIdx) (r : RegIdx) (s : State) : Result :=
  .next (alu32X divN d r s)

/-- `SDIV32_K` {SDIV, K, ALU} (R113). -/
def execSdiv32K (d : RegIdx) (imm : Imm) (s : State) : Result :=
  .next (alu32K sdivN d imm s)

/-- `SDIV32_X` {SDIV, X, ALU} (R114). -/
def execSdiv32X (d : RegIdx) (r : RegIdx) (s : State) : Result :=
  .next (alu32X sdivN d r s)

/-- `OR32_K` {OR, K, ALU} (R115). -/
def execOr32K (d : RegIdx) (imm : Imm) (s : State) : Result :=
  .next (alu32K orN d imm s)

/-- `OR32_X` {OR, X, ALU} (R116). -/
def execOr32X (d : RegIdx) (r : RegIdx) (s : State) : Result :=
  .next (alu32X orN d r s)

/-- `AND32_K` {AND, K, ALU} (R117). -/
def execAnd32K (d : RegIdx) (imm : Imm) (s : State) : Result :=
  .next (alu32K andN d imm s)

/-- `AND32_X` {AND, X, ALU} (R118). -/
def execAnd32X (d : RegIdx) (r : RegIdx) (s : State) : Result :=
  .next (alu32X andN d r s)

/-- `LSH32_K` {LSH, K, ALU} (R119). -/
def execLsh32K (d : RegIdx) (imm : Imm) (s : State) : Result :=
  .next (alu32K lshN d imm s)

/-- `LSH32_X` {LSH, X, ALU} (R120). -/
def execLsh32X (d : RegIdx) (r : RegIdx) (s : State) : Result :=
  .next (alu32X lshN d r s)

/-- `RSH32_K` {RSH, K, ALU} (R121). -/
def execRsh32K (d : RegIdx) (imm : Imm) (s : State) : Result :=
  .next (alu32K rshN d imm s)

/-- `RSH32_X` {RSH, X, ALU} (R122). -/
def execRsh32X (d : RegIdx) (r : RegIdx) (s : State) : Result :=
  .next (alu32X rshN d r s)

/-- `NEG32` {NEG, K, ALU} (R123). -/
def execNeg32 (d : RegIdx) (s : State) : Result :=
  .next (alu32D negN d s)

/-- `MOD32_K` {MOD, K, ALU} (R124). -/
def execMod32K (d : RegIdx) (imm : Imm) (s : State) : Result :=
  .next (alu32K modN d imm s)

/-- `MOD32_X` {MOD, X, ALU} (R125). -/
def execMod32X (d : RegIdx) (r : RegIdx) (s : State) : Result :=
  .next (alu32X modN d r s)

/-- `SMOD32_K` {SMOD, K, ALU} (R126). -/
def execSmod32K (d : RegIdx) (imm : Imm) (s : State) : Result :=
  .next (alu32K smodN d imm s)

/-- `SMOD32_X` {SMOD, X, ALU} (R127). -/
def execSmod32X (d : RegIdx) (r : RegIdx) (s : State) : Result :=
  .next (alu32X smodN d r s)

/-- `XOR32_K` {XOR, K, ALU} (R128). -/
def execXor32K (d : RegIdx) (imm : Imm) (s : State) : Result :=
  .next (alu32K xorN d imm s)

/-- `XOR32_X` {XOR, X, ALU} (R129). -/
def execXor32X (d : RegIdx) (r : RegIdx) (s : State) : Result :=
  .next (alu32X xorN d r s)

/-- `MOV32_K` {MOV, K, ALU} (R130). -/
def execMov32K (d : RegIdx) (imm : Imm) (s : State) : Result :=
  .next (mov32K d imm s)

/-- `MOV32_X` {MOV, X, ALU} (R131). -/
def execMov32X (d : RegIdx) (r : RegIdx) (s : State) : Result :=
  .next (mov32X d r s)

/-- `MOVSX32_8` {MOVSX, X, ALU} with 'offset' 8 (R132). -/
def execMovsx32_8 (d : RegIdx) (r : RegIdx) (s : State) : Result :=
  .next (movsx32 8 d r s)

/-- `MOVSX32_16` {MOVSX, X, ALU} with 'offset' 16 (R133). -/
def execMovsx32_16 (d : RegIdx) (r : RegIdx) (s : State) : Result :=
  .next (movsx32 16 d r s)

/-- `ARSH32_K` {ARSH, K, ALU} (R134). -/
def execArsh32K (d : RegIdx) (imm : Imm) (s : State) : Result :=
  .next (alu32K arshN d imm s)

/-- `ARSH32_X` {ARSH, X, ALU} (R135). -/
def execArsh32X (d : RegIdx) (r : RegIdx) (s : State) : Result :=
  .next (alu32X arshN d r s)

end Sys2Proof.Machine
end

