-- ==== Sys2Proof/Machine/Alu64.lean ====
section
/-! DEFINITION. Class ALU64, 64-bit arithmetic (spec/41_arithmetic_alu64.md): all 64 bits of the operands, the
immediate sign-extended (R140, R141). -/
namespace Sys2Proof.Machine

/-- Shape of a 64-bit operation with an immediate operand (R140, R141). -/
def alu64K (f : Word → Word → Word) (d : RegIdx) (imm : Imm) (s : State) : State :=
  readReg d s fun x => advance (setReg s d (f x (immOperand64 imm)))

/-- Shape of a 64-bit operation with a register operand: `d` is read before `r` (R25, R140, R411). -/
def alu64X (f : Word → Word → Word) (d r : RegIdx) (s : State) : State :=
  readReg d s fun x => readReg r s fun y => advance (setReg s d (f x y))

/-- Shape of a 64-bit operation on the destination alone (R140, R162). -/
def alu64D (f : Word → Word) (d : RegIdx) (s : State) : State :=
  readReg d s fun x => advance (setReg s d (f x))

/-- MOV with an immediate: the destination is written only, not read (R169). -/
def mov64K (d : RegIdx) (imm : Imm) (s : State) : State :=
  advance (setReg s d (immOperand64 imm))

/-- MOV with a register (R170). -/
def mov64X (d r : RegIdx) (s : State) : State :=
  readReg r s fun y => advance (setReg s d y)

/-- MOVSX: the low `bits` bits sign-extended to 64 (R171 to R173). -/
def movsx64 (bits : Nat) (d r : RegIdx) (s : State) : State :=
  readReg r s fun y => advance (setReg s d (signExtendLow bits 64 y))

/-- `ADD64_K` {ADD, K, ALU64} (R144). -/
def execAdd64K (d : RegIdx) (imm : Imm) (s : State) : Result :=
  .next (alu64K addN d imm s)

/-- `ADD64_X` {ADD, X, ALU64} (R145). -/
def execAdd64X (d : RegIdx) (r : RegIdx) (s : State) : Result :=
  .next (alu64X addN d r s)

/-- `SUB64_K` {SUB, K, ALU64} (R146). -/
def execSub64K (d : RegIdx) (imm : Imm) (s : State) : Result :=
  .next (alu64K subN d imm s)

/-- `SUB64_X` {SUB, X, ALU64} (R147). -/
def execSub64X (d : RegIdx) (r : RegIdx) (s : State) : Result :=
  .next (alu64X subN d r s)

/-- `MUL64_K` {MUL, K, ALU64} (R148). -/
def execMul64K (d : RegIdx) (imm : Imm) (s : State) : Result :=
  .next (alu64K mulN d imm s)

/-- `MUL64_X` {MUL, X, ALU64} (R149). -/
def execMul64X (d : RegIdx) (r : RegIdx) (s : State) : Result :=
  .next (alu64X mulN d r s)

/-- `DIV64_K` {DIV, K, ALU64} (R150). -/
def execDiv64K (d : RegIdx) (imm : Imm) (s : State) : Result :=
  .next (alu64K divN d imm s)

/-- `DIV64_X` {DIV, X, ALU64} (R151). -/
def execDiv64X (d : RegIdx) (r : RegIdx) (s : State) : Result :=
  .next (alu64X divN d r s)

/-- `SDIV64_K` {SDIV, K, ALU64} (R152). -/
def execSdiv64K (d : RegIdx) (imm : Imm) (s : State) : Result :=
  .next (alu64K sdivN d imm s)

/-- `SDIV64_X` {SDIV, X, ALU64} (R153). -/
def execSdiv64X (d : RegIdx) (r : RegIdx) (s : State) : Result :=
  .next (alu64X sdivN d r s)

/-- `OR64_K` {OR, K, ALU64} (R154). -/
def execOr64K (d : RegIdx) (imm : Imm) (s : State) : Result :=
  .next (alu64K orN d imm s)

/-- `OR64_X` {OR, X, ALU64} (R155). -/
def execOr64X (d : RegIdx) (r : RegIdx) (s : State) : Result :=
  .next (alu64X orN d r s)

/-- `AND64_K` {AND, K, ALU64} (R156). -/
def execAnd64K (d : RegIdx) (imm : Imm) (s : State) : Result :=
  .next (alu64K andN d imm s)

/-- `AND64_X` {AND, X, ALU64} (R157). -/
def execAnd64X (d : RegIdx) (r : RegIdx) (s : State) : Result :=
  .next (alu64X andN d r s)

/-- `LSH64_K` {LSH, K, ALU64} (R158). -/
def execLsh64K (d : RegIdx) (imm : Imm) (s : State) : Result :=
  .next (alu64K lshN d imm s)

/-- `LSH64_X` {LSH, X, ALU64} (R159). -/
def execLsh64X (d : RegIdx) (r : RegIdx) (s : State) : Result :=
  .next (alu64X lshN d r s)

/-- `RSH64_K` {RSH, K, ALU64} (R160). -/
def execRsh64K (d : RegIdx) (imm : Imm) (s : State) : Result :=
  .next (alu64K rshN d imm s)

/-- `RSH64_X` {RSH, X, ALU64} (R161). -/
def execRsh64X (d : RegIdx) (r : RegIdx) (s : State) : Result :=
  .next (alu64X rshN d r s)

/-- `NEG64` {NEG, K, ALU64} (R162). -/
def execNeg64 (d : RegIdx) (s : State) : Result :=
  .next (alu64D negN d s)

/-- `MOD64_K` {MOD, K, ALU64} (R163). -/
def execMod64K (d : RegIdx) (imm : Imm) (s : State) : Result :=
  .next (alu64K modN d imm s)

/-- `MOD64_X` {MOD, X, ALU64} (R164). -/
def execMod64X (d : RegIdx) (r : RegIdx) (s : State) : Result :=
  .next (alu64X modN d r s)

/-- `SMOD64_K` {SMOD, K, ALU64} (R165). -/
def execSmod64K (d : RegIdx) (imm : Imm) (s : State) : Result :=
  .next (alu64K smodN d imm s)

/-- `SMOD64_X` {SMOD, X, ALU64} (R166). -/
def execSmod64X (d : RegIdx) (r : RegIdx) (s : State) : Result :=
  .next (alu64X smodN d r s)

/-- `XOR64_K` {XOR, K, ALU64} (R167). -/
def execXor64K (d : RegIdx) (imm : Imm) (s : State) : Result :=
  .next (alu64K xorN d imm s)

/-- `XOR64_X` {XOR, X, ALU64} (R168). -/
def execXor64X (d : RegIdx) (r : RegIdx) (s : State) : Result :=
  .next (alu64X xorN d r s)

/-- `MOV64_K` {MOV, K, ALU64} (R169). -/
def execMov64K (d : RegIdx) (imm : Imm) (s : State) : Result :=
  .next (mov64K d imm s)

/-- `MOV64_X` {MOV, X, ALU64} (R170). -/
def execMov64X (d : RegIdx) (r : RegIdx) (s : State) : Result :=
  .next (mov64X d r s)

/-- `MOVSX64_8` {MOVSX, X, ALU64} with 'offset' 8 (R171). -/
def execMovsx64_8 (d : RegIdx) (r : RegIdx) (s : State) : Result :=
  .next (movsx64 8 d r s)

/-- `MOVSX64_16` {MOVSX, X, ALU64} with 'offset' 16 (R172). -/
def execMovsx64_16 (d : RegIdx) (r : RegIdx) (s : State) : Result :=
  .next (movsx64 16 d r s)

/-- `MOVSX64_32` {MOVSX, X, ALU64} with 'offset' 32 (R173). -/
def execMovsx64_32 (d : RegIdx) (r : RegIdx) (s : State) : Result :=
  .next (movsx64 32 d r s)

/-- `ARSH64_K` {ARSH, K, ALU64} (R174). -/
def execArsh64K (d : RegIdx) (imm : Imm) (s : State) : Result :=
  .next (alu64K arshN d imm s)

/-- `ARSH64_X` {ARSH, X, ALU64} (R175). -/
def execArsh64X (d : RegIdx) (r : RegIdx) (s : State) : Result :=
  .next (alu64X arshN d r s)

end Sys2Proof.Machine
end

