-- ==== Sys2Proof/Machine/Atomic.lean ====
section
/-! DEFINITION. Atomic operations (spec/46_atomic.md): one indivisible read-modify-write each (R55, R310), after
the register reads, the alignment check under every setting and `MemOK` (R314). -/
namespace Sys2Proof.Machine

/-- A simple operation without FETCH: `f old v` is written, no register is (R311). -/
def atomicOnly (z : Size) (f : BitVec (sizeBits z) → BitVec (sizeBits z) → BitVec (sizeBits z)) (d r : RegIdx)
    (off : Off) (s : State) : State :=
  readReg d s fun base => readReg r s fun v =>
    orRaise (atomicRMW s (effectiveAddress base off) z fun old => f old (lowBits z v)) s fun p => advance p.2

/-- An operation with FETCH: `x[r]` then receives the old value, zero-extended (R312, R313). -/
def atomicFetch (z : Size) (f : BitVec (sizeBits z) → BitVec (sizeBits z) → BitVec (sizeBits z)) (d r : RegIdx)
    (off : Off) (s : State) : State :=
  readReg d s fun base => readReg r s fun v =>
    orRaise (atomicRMW s (effectiveAddress base off) z fun old => f old (lowBits z v)) s fun p =>
      advance (setReg p.2 r (zext64 p.1))

/-- CMPXCHG (R328, R338): the old value is compared with the low bits of `r0`; on a match `x[r]` replaces it; in
either case `r0` receives it, zero-extended. -/
def compareExchange (z : Size) (d r : RegIdx) (off : Off) (s : State) : State :=
  readReg d s fun base => readReg r s fun v => readReg .r0 s fun e =>
    orRaise (atomicRMW s (effectiveAddress base off) z fun old =>
        if old = lowBits z e then lowBits z v else old) s fun p =>
      advance (setReg p.2 .r0 (zext64 p.1))

/-- `ATOMIC_ADD32` {ATOMIC, W, STX} with 'imm' = ADD (R319). -/
def execAtomicAdd32 (d : RegIdx) (r : RegIdx) (off : Off) (s : State) : Result :=
  .next (atomicOnly .w addN d r off s)

/-- `ATOMIC_FETCH_ADD32` {ATOMIC, W, STX} with 'imm' = ADD | FETCH (R320). -/
def execAtomicFetchAdd32 (d : RegIdx) (r : RegIdx) (off : Off) (s : State) : Result :=
  .next (atomicFetch .w addN d r off s)

/-- `ATOMIC_OR32` {ATOMIC, W, STX} with 'imm' = OR (R321). -/
def execAtomicOr32 (d : RegIdx) (r : RegIdx) (off : Off) (s : State) : Result :=
  .next (atomicOnly .w orN d r off s)

/-- `ATOMIC_FETCH_OR32` {ATOMIC, W, STX} with 'imm' = OR | FETCH (R322). -/
def execAtomicFetchOr32 (d : RegIdx) (r : RegIdx) (off : Off) (s : State) : Result :=
  .next (atomicFetch .w orN d r off s)

/-- `ATOMIC_AND32` {ATOMIC, W, STX} with 'imm' = AND (R323). -/
def execAtomicAnd32 (d : RegIdx) (r : RegIdx) (off : Off) (s : State) : Result :=
  .next (atomicOnly .w andN d r off s)

/-- `ATOMIC_FETCH_AND32` {ATOMIC, W, STX} with 'imm' = AND | FETCH (R324). -/
def execAtomicFetchAnd32 (d : RegIdx) (r : RegIdx) (off : Off) (s : State) : Result :=
  .next (atomicFetch .w andN d r off s)

/-- `ATOMIC_XOR32` {ATOMIC, W, STX} with 'imm' = XOR (R325). -/
def execAtomicXor32 (d : RegIdx) (r : RegIdx) (off : Off) (s : State) : Result :=
  .next (atomicOnly .w xorN d r off s)

/-- `ATOMIC_FETCH_XOR32` {ATOMIC, W, STX} with 'imm' = XOR | FETCH (R326). -/
def execAtomicFetchXor32 (d : RegIdx) (r : RegIdx) (off : Off) (s : State) : Result :=
  .next (atomicFetch .w xorN d r off s)

/-- `XCHG32` {ATOMIC, W, STX} with 'imm' = XCHG (0xe0 | FETCH) (R327). -/
def execXchg32 (d : RegIdx) (r : RegIdx) (off : Off) (s : State) : Result :=
  .next (atomicFetch .w (fun _ v => v) d r off s)

/-- `CMPXCHG32` {ATOMIC, W, STX} with 'imm' = CMPXCHG (0xf0 | FETCH) (R328). -/
def execCmpxchg32 (d : RegIdx) (r : RegIdx) (off : Off) (s : State) : Result :=
  .next (compareExchange .w d r off s)

/-- `ATOMIC_ADD64` {ATOMIC, DW, STX} with 'imm' = ADD (R329). -/
def execAtomicAdd64 (d : RegIdx) (r : RegIdx) (off : Off) (s : State) : Result :=
  .next (atomicOnly .dw addN d r off s)

/-- `ATOMIC_FETCH_ADD64` {ATOMIC, DW, STX} with 'imm' = ADD | FETCH (R330). -/
def execAtomicFetchAdd64 (d : RegIdx) (r : RegIdx) (off : Off) (s : State) : Result :=
  .next (atomicFetch .dw addN d r off s)

/-- `ATOMIC_OR64` {ATOMIC, DW, STX} with 'imm' = OR (R331). -/
def execAtomicOr64 (d : RegIdx) (r : RegIdx) (off : Off) (s : State) : Result :=
  .next (atomicOnly .dw orN d r off s)

/-- `ATOMIC_FETCH_OR64` {ATOMIC, DW, STX} with 'imm' = OR | FETCH (R332). -/
def execAtomicFetchOr64 (d : RegIdx) (r : RegIdx) (off : Off) (s : State) : Result :=
  .next (atomicFetch .dw orN d r off s)

/-- `ATOMIC_AND64` {ATOMIC, DW, STX} with 'imm' = AND (R333). -/
def execAtomicAnd64 (d : RegIdx) (r : RegIdx) (off : Off) (s : State) : Result :=
  .next (atomicOnly .dw andN d r off s)

/-- `ATOMIC_FETCH_AND64` {ATOMIC, DW, STX} with 'imm' = AND | FETCH (R334). -/
def execAtomicFetchAnd64 (d : RegIdx) (r : RegIdx) (off : Off) (s : State) : Result :=
  .next (atomicFetch .dw andN d r off s)

/-- `ATOMIC_XOR64` {ATOMIC, DW, STX} with 'imm' = XOR (R335). -/
def execAtomicXor64 (d : RegIdx) (r : RegIdx) (off : Off) (s : State) : Result :=
  .next (atomicOnly .dw xorN d r off s)

/-- `ATOMIC_FETCH_XOR64` {ATOMIC, DW, STX} with 'imm' = XOR | FETCH (R336). -/
def execAtomicFetchXor64 (d : RegIdx) (r : RegIdx) (off : Off) (s : State) : Result :=
  .next (atomicFetch .dw xorN d r off s)

/-- `XCHG64` {ATOMIC, DW, STX} with 'imm' = XCHG (0xe0 | FETCH) (R337). -/
def execXchg64 (d : RegIdx) (r : RegIdx) (off : Off) (s : State) : Result :=
  .next (atomicFetch .dw (fun _ v => v) d r off s)

/-- `CMPXCHG64` {ATOMIC, DW, STX} with 'imm' = CMPXCHG (0xf0 | FETCH) (R338). -/
def execCmpxchg64 (d : RegIdx) (r : RegIdx) (off : Off) (s : State) : Result :=
  .next (compareExchange .dw d r off s)

end Sys2Proof.Machine
end

