-- ==== Sys2Proof/Machine/ByteSwap.lean ====
section
/-! DEFINITION. The byte swaps, code END (spec/42_byteswap.md): the low `8 * k` bits are converted, the bits above
them are cleared (R181, R182). -/
namespace Sys2Proof.Machine

/-- An END instruction of width `8 * k`: the low bits through the conversion, zero-extended (R181). -/
def byteSwap (k : Nat) (f : Endian → (j : Nat) → BitVec (8 * k) → BitVec (8 * k)) (d : RegIdx) (s : State) : State :=
  readReg d s fun x => advance (setReg s d (zext64 (f s.plat.endian k (x.setWidth (8 * k)))))

/-- `LE16` {END, LE, ALU} with 'imm' = 16 (R183). -/
def execLe16 (d : RegIdx) (s : State) : Result :=
  .next (byteSwap 2 leN d s)

/-- `LE32` {END, LE, ALU} with 'imm' = 32 (R184). -/
def execLe32 (d : RegIdx) (s : State) : Result :=
  .next (byteSwap 4 leN d s)

/-- `LE64` {END, LE, ALU} with 'imm' = 64 (R185). -/
def execLe64 (d : RegIdx) (s : State) : Result :=
  .next (byteSwap 8 leN d s)

/-- `BE16` {END, BE, ALU} with 'imm' = 16 (R186). -/
def execBe16 (d : RegIdx) (s : State) : Result :=
  .next (byteSwap 2 beN d s)

/-- `BE32` {END, BE, ALU} with 'imm' = 32 (R187). -/
def execBe32 (d : RegIdx) (s : State) : Result :=
  .next (byteSwap 4 beN d s)

/-- `BE64` {END, BE, ALU} with 'imm' = 64 (R188). -/
def execBe64 (d : RegIdx) (s : State) : Result :=
  .next (byteSwap 8 beN d s)

/-- `BSWAP16` {END, TO, ALU64} with 'imm' = 16 (R189). -/
def execBswap16 (d : RegIdx) (s : State) : Result :=
  .next (byteSwap 2 (fun _ => bswapN) d s)

/-- `BSWAP32` {END, TO, ALU64} with 'imm' = 32 (R190). -/
def execBswap32 (d : RegIdx) (s : State) : Result :=
  .next (byteSwap 4 (fun _ => bswapN) d s)

/-- `BSWAP64` {END, TO, ALU64} with 'imm' = 64 (R191). -/
def execBswap64 (d : RegIdx) (s : State) : Result :=
  .next (byteSwap 8 (fun _ => bswapN) d s)

end Sys2Proof.Machine
end

