-- ==== Sys2Proof/Machine/CallExit.lean ====
section
/-! DEFINITION. CALL and EXIT (spec/44_call_exit.md). -/
namespace Sys2Proof.Machine

/-- `CALL_HELPER` and `CALL_BTF` (R261, R263): an id outside the domain of `HELPERS` raises `UnknownHelper`; else
the helper's answer is taken, a refusal raising `HelperFault`. -/
def callHelper (kind : HelperKind) (id : Imm) (s : State) : State :=
  if (kind, id) ∈ s.plat.helpers then
    match nextReply s kind id with
    | .fault => raise (.helperFault kind id) s
    | .done x ws => advance (helperDone s x ws)
  else raise (.unknownHelper kind id) s

/-- `CALL_LOCAL` (R262): push the frame of `pc + 1`, then `pc <- pc + 1 + S_32(imm)`. -/
def callLocal (imm : Imm) (s : State) : State :=
  if callStackFull s then raise (.callDepthExceeded s.pc) s
  else jumpTo (pushFrame s (s.pc + 1)) (immTarget s.pc imm)

/-- `EXIT` (R264): with an empty call stack the run ends, else the newest frame is popped. -/
def exitOp (s : State) : State :=
  match s.cs with
  | [] => endRun s
  | f :: rest => jumpTo (popFrame s f rest) f.ret

/-- `CALL_HELPER` {CALL, K, JMP} with src_reg 0x0 (R261). -/
def execCallHelper (imm : Imm) (s : State) : Result :=
  .next (callHelper .staticId imm s)

/-- `CALL_LOCAL` {CALL, K, JMP} with src_reg 0x1 (R262). -/
def execCallLocal (imm : Imm) (s : State) : Result :=
  .next (callLocal imm s)

/-- `CALL_BTF` {CALL, K, JMP} with src_reg 0x2 (R263). -/
def execCallBtf (imm : Imm) (s : State) : Result :=
  .next (callHelper .btfId imm s)

/-- `EXIT` {EXIT, K, JMP} (R264). -/
def execExit (s : State) : Result :=
  .next (exitOp s)

end Sys2Proof.Machine
end

