-- ==== Sys2Proof/Machine/Imm64.lean ====
section
/-! DEFINITION. The 64-bit immediate instructions (spec/47_imm64.md): each writes one 64-bit value to `x[d]`, reads
no register, accesses no data memory and ends with `pc <- pc + 2` (R340). The second slot is no instruction
(R349). -/
namespace Sys2Proof.Machine

/-- `x[d] <- v; pc <- pc + 2` (R340). -/
def putWide (s : State) (d : RegIdx) (v : Word) : State :=
  jumpTo (setReg s d v) (s.pc + 2)

/-- A lookup whose value is loaded (R343, R345, R346, R347). -/
def loadLookup (v : Except Cause Word) (d : RegIdx) (s : State) : State :=
  orRaise v s fun a => putWide s d a

/-- A map lookup, then `map_val` of the map, then `(v + zext_64(next_imm)) mod 2^64` (R344, R348; decision D36). -/
def loadMapValue (m : Except Cause Word) (d : RegIdx) (nextImm : Imm) (s : State) : State :=
  orRaise m s fun map =>
    orRaise (lookupOr s.plat.mapVal map .mapVal (.map map)) s fun v => putWide s d (v + zext64 nextImm)

/-- `LDDW_IMM` {IMM, DW, LD} with src_reg 0x0 (R342). -/
def execLddwImm (d : RegIdx) (imm : Imm) (nextImm : Imm) (s : State) : Result :=
  .next (putWide s d (wideImm imm nextImm))

/-- `LDDW_MAP_FD` {IMM, DW, LD} with src_reg 0x1 (R343). -/
def execLddwMapFd (d : RegIdx) (imm : Imm) (s : State) : Result :=
  .next (loadLookup (lookupOr s.plat.mapByFd imm .mapByFd (.imm imm)) d s)

/-- `LDDW_MAP_FD_VAL` {IMM, DW, LD} with src_reg 0x2 (R344). -/
def execLddwMapFdVal (d : RegIdx) (imm : Imm) (nextImm : Imm) (s : State) : Result :=
  .next (loadMapValue (lookupOr s.plat.mapByFd imm .mapByFd (.imm imm)) d nextImm s)

/-- `LDDW_VAR` {IMM, DW, LD} with src_reg 0x3 (R345). -/
def execLddwVar (d : RegIdx) (imm : Imm) (s : State) : Result :=
  .next (loadLookup (lookupOr s.plat.varAddr imm .varAddr (.imm imm)) d s)

/-- `LDDW_CODE` {IMM, DW, LD} with src_reg 0x4 (R346). -/
def execLddwCode (d : RegIdx) (imm : Imm) (s : State) : Result :=
  .next (loadLookup (lookupOr s.plat.codeAddr (s.pc, imm) .codeAddr (.code s.pc imm)) d s)

/-- `LDDW_MAP_IDX` {IMM, DW, LD} with src_reg 0x5 (R347). -/
def execLddwMapIdx (d : RegIdx) (imm : Imm) (s : State) : Result :=
  .next (loadLookup (lookupOr s.plat.mapByIdx imm .mapByIdx (.imm imm)) d s)

/-- `LDDW_MAP_IDX_VAL` {IMM, DW, LD} with src_reg 0x6 (R348). -/
def execLddwMapIdxVal (d : RegIdx) (imm : Imm) (nextImm : Imm) (s : State) : Result :=
  .next (loadMapValue (lookupOr s.plat.mapByIdx imm .mapByIdx (.imm imm)) d nextImm s)

/-- `IMM64_SECOND_SLOT` (additional immediate value) (R349). -/
def execImm64SecondSlot (_nextImm : Imm) (s : State) : Result :=
  .next (raise (.illegalInstruction s.pc) s)

end Sys2Proof.Machine
end

