-- ==== Sys2Proof/Machine/Flags.lean ====
section
/-! DEFINITION. The machine has no flags (R28): nothing is stored by an arithmetic instruction or a comparison.
What other machines compute through flags, this one computes inside a conditional jump; the eleven conditions
of R201 are here, at any width. -/
namespace Sys2Proof.Machine

/-- JEQ: bit equality (R201). -/
def condEq {n : Nat} (a b : BitVec n) : Bool := a == b

/-- JNE: bit inequality (R201). -/
def condNe {n : Nat} (a b : BitVec n) : Bool := a != b

/-- JSET: `(a & b) != 0` (R201). -/
def condSet {n : Nat} (a b : BitVec n) : Bool := (a &&& b) != 0

/-- JGT: `U(a) > U(b)` (R201). -/
def condGt {n : Nat} (a b : BitVec n) : Bool := decide (a.toNat > b.toNat)

/-- JGE: `U(a) >= U(b)` (R201). -/
def condGe {n : Nat} (a b : BitVec n) : Bool := decide (a.toNat ≥ b.toNat)

/-- JLT: `U(a) < U(b)` (R201). -/
def condLt {n : Nat} (a b : BitVec n) : Bool := decide (a.toNat < b.toNat)

/-- JLE: `U(a) <= U(b)` (R201). -/
def condLe {n : Nat} (a b : BitVec n) : Bool := decide (a.toNat ≤ b.toNat)

/-- JSGT: `S_N(a) > S_N(b)` (R201). -/
def condSgt {n : Nat} (a b : BitVec n) : Bool := decide (a.toInt > b.toInt)

/-- JSGE: `S_N(a) >= S_N(b)` (R201). -/
def condSge {n : Nat} (a b : BitVec n) : Bool := decide (a.toInt ≥ b.toInt)

/-- JSLT: `S_N(a) < S_N(b)` (R201). -/
def condSlt {n : Nat} (a b : BitVec n) : Bool := decide (a.toInt < b.toInt)

/-- JSLE: `S_N(a) <= S_N(b)` (R201). -/
def condSle {n : Nat} (a b : BitVec n) : Bool := decide (a.toInt ≤ b.toInt)

end Sys2Proof.Machine
end

