-- ==== Sys2Proof/Machine/Jump.lean ====
section
/-! DEFINITION. Jumps, classes JMP and JMP32 (spec/43_jump.md). No jump checks its target (R203); a conditional
jump writes nothing but `pc` (R201). -/
namespace Sys2Proof.Machine

/-- The arms of a conditional jump: `pc + 1 + S_16(off)` when taken, else `pc + 1` (R202). -/
def branch (taken : Bool) (off : Off) (s : State) : State :=
  jumpTo s (if taken then offTarget s.pc off else s.pc + 1)

/-- Class JMP, K: 64-bit comparison with `sext_64(imm)` (R201). -/
def jump64K (cond : Word → Word → Bool) (d : RegIdx) (off : Off) (imm : Imm) (s : State) : State :=
  readReg d s fun a => branch (cond a (immOperand64 imm)) off s

/-- Class JMP, X: 64-bit comparison with a register (R201). -/
def jump64X (cond : Word → Word → Bool) (d r : RegIdx) (off : Off) (s : State) : State :=
  readReg d s fun a => readReg r s fun b => branch (cond a b) off s

/-- Class JMP32, K: 32-bit comparison with `imm` (R201). -/
def jump32K (cond : BitVec 32 → BitVec 32 → Bool) (d : RegIdx) (off : Off) (imm : Imm) (s : State) : State :=
  readReg d s fun a => branch (cond (low32 a) (immOperand32 imm)) off s

/-- Class JMP32, X: comparison of the low 32 bits (R201). -/
def jump32X (cond : BitVec 32 → BitVec 32 → Bool) (d r : RegIdx) (off : Off) (s : State) : State :=
  readReg d s fun a => readReg r s fun b => branch (cond (low32 a) (low32 b)) off s

/-- `JA` {JA, K, JMP} (R205). -/
def execJa (off : Off) (s : State) : Result :=
  .next (jumpTo s (offTarget s.pc off))

/-- `JA32` {JA, K, JMP32} (R206). -/
def execJa32 (imm : Imm) (s : State) : Result :=
  .next (jumpTo s (immTarget s.pc imm))

/-- `JEQ64_K` {JEQ, K, JMP} (R207). -/
def execJeq64K (d : RegIdx) (off : Off) (imm : Imm) (s : State) : Result :=
  .next (jump64K condEq d off imm s)

/-- `JEQ64_X` {JEQ, X, JMP} (R208). -/
def execJeq64X (d : RegIdx) (r : RegIdx) (off : Off) (s : State) : Result :=
  .next (jump64X condEq d r off s)

/-- `JGT64_K` {JGT, K, JMP} (R209). -/
def execJgt64K (d : RegIdx) (off : Off) (imm : Imm) (s : State) : Result :=
  .next (jump64K condGt d off imm s)

/-- `JGT64_X` {JGT, X, JMP} (R210). -/
def execJgt64X (d : RegIdx) (r : RegIdx) (off : Off) (s : State) : Result :=
  .next (jump64X condGt d r off s)

/-- `JGE64_K` {JGE, K, JMP} (R211). -/
def execJge64K (d : RegIdx) (off : Off) (imm : Imm) (s : State) : Result :=
  .next (jump64K condGe d off imm s)

/-- `JGE64_X` {JGE, X, JMP} (R212). -/
def execJge64X (d : RegIdx) (r : RegIdx) (off : Off) (s : State) : Result :=
  .next (jump64X condGe d r off s)

/-- `JSET64_K` {JSET, K, JMP} (R213). -/
def execJset64K (d : RegIdx) (off : Off) (imm : Imm) (s : State) : Result :=
  .next (jump64K condSet d off imm s)

/-- `JSET64_X` {JSET, X, JMP} (R214). -/
def execJset64X (d : RegIdx) (r : RegIdx) (off : Off) (s : State) : Result :=
  .next (jump64X condSet d r off s)

/-- `JNE64_K` {JNE, K, JMP} (R215). -/
def execJne64K (d : RegIdx) (off : Off) (imm : Imm) (s : State) : Result :=
  .next (jump64K condNe d off imm s)

/-- `JNE64_X` {JNE, X, JMP} (R216). -/
def execJne64X (d : RegIdx) (r : RegIdx) (off : Off) (s : State) : Result :=
  .next (jump64X condNe d r off s)

/-- `JSGT64_K` {JSGT, K, JMP} (R217). -/
def execJsgt64K (d : RegIdx) (off : Off) (imm : Imm) (s : State) : Result :=
  .next (jump64K condSgt d off imm s)

/-- `JSGT64_X` {JSGT, X, JMP} (R218). -/
def execJsgt64X (d : RegIdx) (r : RegIdx) (off : Off) (s : State) : Result :=
  .next (jump64X condSgt d r off s)

/-- `JSGE64_K` {JSGE, K, JMP} (R219). -/
def execJsge64K (d : RegIdx) (off : Off) (imm : Imm) (s : State) : Result :=
  .next (jump64K condSge d off imm s)

/-- `JSGE64_X` {JSGE, X, JMP} (R220). -/
def execJsge64X (d : RegIdx) (r : RegIdx) (off : Off) (s : State) : Result :=
  .next (jump64X condSge d r off s)

/-- `JLT64_K` {JLT, K, JMP} (R221). -/
def execJlt64K (d : RegIdx) (off : Off) (imm : Imm) (s : State) : Result :=
  .next (jump64K condLt d off imm s)

/-- `JLT64_X` {JLT, X, JMP} (R222). -/
def execJlt64X (d : RegIdx) (r : RegIdx) (off : Off) (s : State) : Result :=
  .next (jump64X condLt d r off s)

/-- `JLE64_K` {JLE, K, JMP} (R223). -/
def execJle64K (d : RegIdx) (off : Off) (imm : Imm) (s : State) : Result :=
  .next (jump64K condLe d off imm s)

/-- `JLE64_X` {JLE, X, JMP} (R224). -/
def execJle64X (d : RegIdx) (r : RegIdx) (off : Off) (s : State) : Result :=
  .next (jump64X condLe d r off s)

/-- `JSLT64_K` {JSLT, K, JMP} (R225). -/
def execJslt64K (d : RegIdx) (off : Off) (imm : Imm) (s : State) : Result :=
  .next (jump64K condSlt d off imm s)

/-- `JSLT64_X` {JSLT, X, JMP} (R226). -/
def execJslt64X (d : RegIdx) (r : RegIdx) (off : Off) (s : State) : Result :=
  .next (jump64X condSlt d r off s)

/-- `JSLE64_K` {JSLE, K, JMP} (R227). -/
def execJsle64K (d : RegIdx) (off : Off) (imm : Imm) (s : State) : Result :=
  .next (jump64K condSle d off imm s)

/-- `JSLE64_X` {JSLE, X, JMP} (R228). -/
def execJsle64X (d : RegIdx) (r : RegIdx) (off : Off) (s : State) : Result :=
  .next (jump64X condSle d r off s)

/-- `JEQ32_K` {JEQ, K, JMP32} (R229). -/
def execJeq32K (d : RegIdx) (off : Off) (imm : Imm) (s : State) : Result :=
  .next (jump32K condEq d off imm s)

/-- `JEQ32_X` {JEQ, X, JMP32} (R230). -/
def execJeq32X (d : RegIdx) (r : RegIdx) (off : Off) (s : State) : Result :=
  .next (jump32X condEq d r off s)

/-- `JGT32_K` {JGT, K, JMP32} (R231). -/
def execJgt32K (d : RegIdx) (off : Off) (imm : Imm) (s : State) : Result :=
  .next (jump32K condGt d off imm s)

/-- `JGT32_X` {JGT, X, JMP32} (R232). -/
def execJgt32X (d : RegIdx) (r : RegIdx) (off : Off) (s : State) : Result :=
  .next (jump32X condGt d r off s)

/-- `JGE32_K` {JGE, K, JMP32} (R233). -/
def execJge32K (d : RegIdx) (off : Off) (imm : Imm) (s : State) : Result :=
  .next (jump32K condGe d off imm s)

/-- `JGE32_X` {JGE, X, JMP32} (R234). -/
def execJge32X (d : RegIdx) (r : RegIdx) (off : Off) (s : State) : Result :=
  .next (jump32X condGe d r off s)

/-- `JSET32_K` {JSET, K, JMP32} (R235). -/
def execJset32K (d : RegIdx) (off : Off) (imm : Imm) (s : State) : Result :=
  .next (jump32K condSet d off imm s)

/-- `JSET32_X` {JSET, X, JMP32} (R236). -/
def execJset32X (d : RegIdx) (r : RegIdx) (off : Off) (s : State) : Result :=
  .next (jump32X condSet d r off s)

/-- `JNE32_K` {JNE, K, JMP32} (R237). -/
def execJne32K (d : RegIdx) (off : Off) (imm : Imm) (s : State) : Result :=
  .next (jump32K condNe d off imm s)

/-- `JNE32_X` {JNE, X, JMP32} (R238). -/
def execJne32X (d : RegIdx) (r : RegIdx) (off : Off) (s : State) : Result :=
  .next (jump32X condNe d r off s)

/-- `JSGT32_K` {JSGT, K, JMP32} (R239). -/
def execJsgt32K (d : RegIdx) (off : Off) (imm : Imm) (s : State) : Result :=
  .next (jump32K condSgt d off imm s)

/-- `JSGT32_X` {JSGT, X, JMP32} (R240). -/
def execJsgt32X (d : RegIdx) (r : RegIdx) (off : Off) (s : State) : Result :=
  .next (jump32X condSgt d r off s)

/-- `JSGE32_K` {JSGE, K, JMP32} (R241). -/
def execJsge32K (d : RegIdx) (off : Off) (imm : Imm) (s : State) : Result :=
  .next (jump32K condSge d off imm s)

/-- `JSGE32_X` {JSGE, X, JMP32} (R242). -/
def execJsge32X (d : RegIdx) (r : RegIdx) (off : Off) (s : State) : Result :=
  .next (jump32X condSge d r off s)

/-- `JLT32_K` {JLT, K, JMP32} (R243). -/
def execJlt32K (d : RegIdx) (off : Off) (imm : Imm) (s : State) : Result :=
  .next (jump32K condLt d off imm s)

/-- `JLT32_X` {JLT, X, JMP32} (R244). -/
def execJlt32X (d : RegIdx) (r : RegIdx) (off : Off) (s : State) : Result :=
  .next (jump32X condLt d r off s)

/-- `JLE32_K` {JLE, K, JMP32} (R245). -/
def execJle32K (d : RegIdx) (off : Off) (imm : Imm) (s : State) : Result :=
  .next (jump32K condLe d off imm s)

/-- `JLE32_X` {JLE, X, JMP32} (R246). -/
def execJle32X (d : RegIdx) (r : RegIdx) (off : Off) (s : State) : Result :=
  .next (jump32X condLe d r off s)

/-- `JSLT32_K` {JSLT, K, JMP32} (R247). -/
def execJslt32K (d : RegIdx) (off : Off) (imm : Imm) (s : State) : Result :=
  .next (jump32K condSlt d off imm s)

/-- `JSLT32_X` {JSLT, X, JMP32} (R248). -/
def execJslt32X (d : RegIdx) (r : RegIdx) (off : Off) (s : State) : Result :=
  .next (jump32X condSlt d r off s)

/-- `JSLE32_K` {JSLE, K, JMP32} (R249). -/
def execJsle32K (d : RegIdx) (off : Off) (imm : Imm) (s : State) : Result :=
  .next (jump32K condSle d off imm s)

/-- `JSLE32_X` {JSLE, X, JMP32} (R250). -/
def execJsle32X (d : RegIdx) (r : RegIdx) (off : Off) (s : State) : Result :=
  .next (jump32X condSle d r off s)

end Sys2Proof.Machine
end

