-- ==== Sys2Proof/Machine/LoadStore.lean ====
section
/-! DEFINITION. Regular and sign-extension loads and stores (spec/45_load_store.md). The registers are read
first, then the address is formed, then alignment and `MemOK` are checked (R280); a fault writes nothing. -/
namespace Sys2Proof.Machine

/-- LDX in modes MEM and MEMSX (R281, R282): the base is `x[r]`; `x[d]` is written only. -/
def load (z : Size) (ext : BitVec (sizeBits z) → Word) (d r : RegIdx) (off : Off) (s : State) : State :=
  readReg r s fun base =>
    orRaise (memRead s (effectiveAddress base off) z) s fun v => advance (setReg s d (ext v))

/-- ST (R283): the base is `x[d]`; no register is written. -/
def storeImmediate (z : Size) (d : RegIdx) (off : Off) (imm : Imm) (s : State) : State :=
  readReg d s fun base =>
    orRaise (memWrite s (effectiveAddress base off) z (storeImm z imm)) s fun t => advance t

/-- STX in mode MEM (R284): the base is `x[d]`, the value the low bits of `x[r]`; no register is written. -/
def storeRegister (z : Size) (d r : RegIdx) (off : Off) (s : State) : State :=
  readReg d s fun base => readReg r s fun v =>
    orRaise (memWrite s (effectiveAddress base off) z (lowBits z v)) s fun t => advance t

/-- `LDXW` {MEM, W, LDX} (R285). -/
def execLdxw (d : RegIdx) (r : RegIdx) (off : Off) (s : State) : Result :=
  .next (load .w zext64 d r off s)

/-- `LDXH` {MEM, H, LDX} (R286). -/
def execLdxh (d : RegIdx) (r : RegIdx) (off : Off) (s : State) : Result :=
  .next (load .h zext64 d r off s)

/-- `LDXB` {MEM, B, LDX} (R287). -/
def execLdxb (d : RegIdx) (r : RegIdx) (off : Off) (s : State) : Result :=
  .next (load .b zext64 d r off s)

/-- `LDXDW` {MEM, DW, LDX} (R288). -/
def execLdxdw (d : RegIdx) (r : RegIdx) (off : Off) (s : State) : Result :=
  .next (load .dw zext64 d r off s)

/-- `STW` {MEM, W, ST} (R289). -/
def execStw (d : RegIdx) (off : Off) (imm : Imm) (s : State) : Result :=
  .next (storeImmediate .w d off imm s)

/-- `STH` {MEM, H, ST} (R290). -/
def execSth (d : RegIdx) (off : Off) (imm : Imm) (s : State) : Result :=
  .next (storeImmediate .h d off imm s)

/-- `STB` {MEM, B, ST} (R291). -/
def execStb (d : RegIdx) (off : Off) (imm : Imm) (s : State) : Result :=
  .next (storeImmediate .b d off imm s)

/-- `STDW` {MEM, DW, ST} (R292). -/
def execStdw (d : RegIdx) (off : Off) (imm : Imm) (s : State) : Result :=
  .next (storeImmediate .dw d off imm s)

/-- `STXW` {MEM, W, STX} (R293). -/
def execStxw (d : RegIdx) (r : RegIdx) (off : Off) (s : State) : Result :=
  .next (storeRegister .w d r off s)

/-- `STXH` {MEM, H, STX} (R294). -/
def execStxh (d : RegIdx) (r : RegIdx) (off : Off) (s : State) : Result :=
  .next (storeRegister .h d r off s)

/-- `STXB` {MEM, B, STX} (R295). -/
def execStxb (d : RegIdx) (r : RegIdx) (off : Off) (s : State) : Result :=
  .next (storeRegister .b d r off s)

/-- `STXDW` {MEM, DW, STX} (R296). -/
def execStxdw (d : RegIdx) (r : RegIdx) (off : Off) (s : State) : Result :=
  .next (storeRegister .dw d r off s)

/-- `LDXSW` {MEMSX, W, LDX} (R297). -/
def execLdxsw (d : RegIdx) (r : RegIdx) (off : Off) (s : State) : Result :=
  .next (load .w sext64 d r off s)

/-- `LDXSH` {MEMSX, H, LDX} (R298). -/
def execLdxsh (d : RegIdx) (r : RegIdx) (off : Off) (s : State) : Result :=
  .next (load .h sext64 d r off s)

/-- `LDXSB` {MEMSX, B, LDX} (R299). -/
def execLdxsb (d : RegIdx) (r : RegIdx) (off : Off) (s : State) : Result :=
  .next (load .b sext64 d r off s)

end Sys2Proof.Machine
end

