-- ==== Sys2Proof/Syntax.lean ====
section
/-! DEFINITION. The instructions: one constructor per row of spec/opcode_table.json, with the operands the row
uses (R84). Register operands are `RegIdx`, so an operand above 10 cannot be written (R88); an unused field has
no argument. A selector field (`offset` of DIV, MOD and MOV; `imm` of END and ATOMIC; `src_reg` of CALL and LDDW)
is part of the constructor. The last constructor stands for the table row `IMM64_SECOND_SLOT`, which is not an
instruction (R349). -/
namespace Sys2Proof

/-- An instruction of the BPF ISA (R4, R92). -/
inductive Instr where
  -- Arithmetic, class ALU (32-bit) (spec/40_arithmetic_alu32.md)
  /-- `ADD32_K` {ADD, K, ALU} (R105). -/
  | add32K (d : RegIdx) (imm : Imm)
  /-- `ADD32_X` {ADD, X, ALU} (R106). -/
  | add32X (d s : RegIdx)
  /-- `SUB32_K` {SUB, K, ALU} (R107). -/
  | sub32K (d : RegIdx) (imm : Imm)
  /-- `SUB32_X` {SUB, X, ALU} (R108). -/
  | sub32X (d s : RegIdx)
  /-- `MUL32_K` {MUL, K, ALU} (R109). -/
  | mul32K (d : RegIdx) (imm : Imm)
  /-- `MUL32_X` {MUL, X, ALU} (R110). -/
  | mul32X (d s : RegIdx)
  /-- `DIV32_K` {DIV, K, ALU} (R111). -/
  | div32K (d : RegIdx) (imm : Imm)
  /-- `DIV32_X` {DIV, X, ALU} (R112). -/
  | div32X (d s : RegIdx)
  /-- `SDIV32_K` {SDIV, K, ALU} (R113). -/
  | sdiv32K (d : RegIdx) (imm : Imm)
  /-- `SDIV32_X` {SDIV, X, ALU} (R114). -/
  | sdiv32X (d s : RegIdx)
  /-- `OR32_K` {OR, K, ALU} (R115). -/
  | or32K (d : RegIdx) (imm : Imm)
  /-- `OR32_X` {OR, X, ALU} (R116). -/
  | or32X (d s : RegIdx)
  /-- `AND32_K` {AND, K, ALU} (R117). -/
  | and32K (d : RegIdx) (imm : Imm)
  /-- `AND32_X` {AND, X, ALU} (R118). -/
  | and32X (d s : RegIdx)
  /-- `LSH32_K` {LSH, K, ALU} (R119). -/
  | lsh32K (d : RegIdx) (imm : Imm)
  /-- `LSH32_X` {LSH, X, ALU} (R120). -/
  | lsh32X (d s : RegIdx)
  /-- `RSH32_K` {RSH, K, ALU} (R121). -/
  | rsh32K (d : RegIdx) (imm : Imm)
  /-- `RSH32_X` {RSH, X, ALU} (R122). -/
  | rsh32X (d s : RegIdx)
  /-- `NEG32` {NEG, K, ALU} (R123). -/
  | neg32 (d : RegIdx)
  /-- `MOD32_K` {MOD, K, ALU} (R124). -/
  | mod32K (d : RegIdx) (imm : Imm)
  /-- `MOD32_X` {MOD, X, ALU} (R125). -/
  | mod32X (d s : RegIdx)
  /-- `SMOD32_K` {SMOD, K, ALU} (R126). -/
  | smod32K (d : RegIdx) (imm : Imm)
  /-- `SMOD32_X` {SMOD, X, ALU} (R127). -/
  | smod32X (d s : RegIdx)
  /-- `XOR32_K` {XOR, K, ALU} (R128). -/
  | xor32K (d : RegIdx) (imm : Imm)
  /-- `XOR32_X` {XOR, X, ALU} (R129). -/
  | xor32X (d s : RegIdx)
  /-- `MOV32_K` {MOV, K, ALU} (R130). -/
  | mov32K (d : RegIdx) (imm : Imm)
  /-- `MOV32_X` {MOV, X, ALU} (R131). -/
  | mov32X (d s : RegIdx)
  /-- `MOVSX32_8` {MOVSX, X, ALU} with 'offset' 8 (R132). -/
  | movsx32_8 (d s : RegIdx)
  /-- `MOVSX32_16` {MOVSX, X, ALU} with 'offset' 16 (R133). -/
  | movsx32_16 (d s : RegIdx)
  /-- `ARSH32_K` {ARSH, K, ALU} (R134). -/
  | arsh32K (d : RegIdx) (imm : Imm)
  /-- `ARSH32_X` {ARSH, X, ALU} (R135). -/
  | arsh32X (d s : RegIdx)
  -- Arithmetic, class ALU64 (64-bit) (spec/41_arithmetic_alu64.md)
  /-- `ADD64_K` {ADD, K, ALU64} (R144). -/
  | add64K (d : RegIdx) (imm : Imm)
  /-- `ADD64_X` {ADD, X, ALU64} (R145). -/
  | add64X (d s : RegIdx)
  /-- `SUB64_K` {SUB, K, ALU64} (R146). -/
  | sub64K (d : RegIdx) (imm : Imm)
  /-- `SUB64_X` {SUB, X, ALU64} (R147). -/
  | sub64X (d s : RegIdx)
  /-- `MUL64_K` {MUL, K, ALU64} (R148). -/
  | mul64K (d : RegIdx) (imm : Imm)
  /-- `MUL64_X` {MUL, X, ALU64} (R149). -/
  | mul64X (d s : RegIdx)
  /-- `DIV64_K` {DIV, K, ALU64} (R150). -/
  | div64K (d : RegIdx) (imm : Imm)
  /-- `DIV64_X` {DIV, X, ALU64} (R151). -/
  | div64X (d s : RegIdx)
  /-- `SDIV64_K` {SDIV, K, ALU64} (R152). -/
  | sdiv64K (d : RegIdx) (imm : Imm)
  /-- `SDIV64_X` {SDIV, X, ALU64} (R153). -/
  | sdiv64X (d s : RegIdx)
  /-- `OR64_K` {OR, K, ALU64} (R154). -/
  | or64K (d : RegIdx) (imm : Imm)
  /-- `OR64_X` {OR, X, ALU64} (R155). -/
  | or64X (d s : RegIdx)
  /-- `AND64_K` {AND, K, ALU64} (R156). -/
  | and64K (d : RegIdx) (imm : Imm)
  /-- `AND64_X` {AND, X, ALU64} (R157). -/
  | and64X (d s : RegIdx)
  /-- `LSH64_K` {LSH, K, ALU64} (R158). -/
  | lsh64K (d : RegIdx) (imm : Imm)
  /-- `LSH64_X` {LSH, X, ALU64} (R159). -/
  | lsh64X (d s : RegIdx)
  /-- `RSH64_K` {RSH, K, ALU64} (R160). -/
  | rsh64K (d : RegIdx) (imm : Imm)
  /-- `RSH64_X` {RSH, X, ALU64} (R161). -/
  | rsh64X (d s : RegIdx)
  /-- `NEG64` {NEG, K, ALU64} (R162). -/
  | neg64 (d : RegIdx)
  /-- `MOD64_K` {MOD, K, ALU64} (R163). -/
  | mod64K (d : RegIdx) (imm : Imm)
  /-- `MOD64_X` {MOD, X, ALU64} (R164). -/
  | mod64X (d s : RegIdx)
  /-- `SMOD64_K` {SMOD, K, ALU64} (R165). -/
  | smod64K (d : RegIdx) (imm : Imm)
  /-- `SMOD64_X` {SMOD, X, ALU64} (R166). -/
  | smod64X (d s : RegIdx)
  /-- `XOR64_K` {XOR, K, ALU64} (R167). -/
  | xor64K (d : RegIdx) (imm : Imm)
  /-- `XOR64_X` {XOR, X, ALU64} (R168). -/
  | xor64X (d s : RegIdx)
  /-- `MOV64_K` {MOV, K, ALU64} (R169). -/
  | mov64K (d : RegIdx) (imm : Imm)
  /-- `MOV64_X` {MOV, X, ALU64} (R170). -/
  | mov64X (d s : RegIdx)
  /-- `MOVSX64_8` {MOVSX, X, ALU64} with 'offset' 8 (R171). -/
  | movsx64_8 (d s : RegIdx)
  /-- `MOVSX64_16` {MOVSX, X, ALU64} with 'offset' 16 (R172). -/
  | movsx64_16 (d s : RegIdx)
  /-- `MOVSX64_32` {MOVSX, X, ALU64} with 'offset' 32 (R173). -/
  | movsx64_32 (d s : RegIdx)
  /-- `ARSH64_K` {ARSH, K, ALU64} (R174). -/
  | arsh64K (d : RegIdx) (imm : Imm)
  /-- `ARSH64_X` {ARSH, X, ALU64} (R175). -/
  | arsh64X (d s : RegIdx)
  -- Byte swaps (code END) (spec/42_byteswap.md)
  /-- `LE16` {END, LE, ALU} with 'imm' = 16 (R183). -/
  | le16 (d : RegIdx)
  /-- `LE32` {END, LE, ALU} with 'imm' = 32 (R184). -/
  | le32 (d : RegIdx)
  /-- `LE64` {END, LE, ALU} with 'imm' = 64 (R185). -/
  | le64 (d : RegIdx)
  /-- `BE16` {END, BE, ALU} with 'imm' = 16 (R186). -/
  | be16 (d : RegIdx)
  /-- `BE32` {END, BE, ALU} with 'imm' = 32 (R187). -/
  | be32 (d : RegIdx)
  /-- `BE64` {END, BE, ALU} with 'imm' = 64 (R188). -/
  | be64 (d : RegIdx)
  /-- `BSWAP16` {END, TO, ALU64} with 'imm' = 16 (R189). -/
  | bswap16 (d : RegIdx)
  /-- `BSWAP32` {END, TO, ALU64} with 'imm' = 32 (R190). -/
  | bswap32 (d : RegIdx)
  /-- `BSWAP64` {END, TO, ALU64} with 'imm' = 64 (R191). -/
  | bswap64 (d : RegIdx)
  -- Jumps, classes JMP and JMP32 (spec/43_jump.md)
  /-- `JA` {JA, K, JMP} (R205). -/
  | ja (off : Off)
  /-- `JA32` {JA, K, JMP32} (R206). -/
  | ja32 (imm : Imm)
  /-- `JEQ64_K` {JEQ, K, JMP} (R207). -/
  | jeq64K (d : RegIdx) (off : Off) (imm : Imm)
  /-- `JEQ64_X` {JEQ, X, JMP} (R208). -/
  | jeq64X (d s : RegIdx) (off : Off)
  /-- `JGT64_K` {JGT, K, JMP} (R209). -/
  | jgt64K (d : RegIdx) (off : Off) (imm : Imm)
  /-- `JGT64_X` {JGT, X, JMP} (R210). -/
  | jgt64X (d s : RegIdx) (off : Off)
  /-- `JGE64_K` {JGE, K, JMP} (R211). -/
  | jge64K (d : RegIdx) (off : Off) (imm : Imm)
  /-- `JGE64_X` {JGE, X, JMP} (R212). -/
  | jge64X (d s : RegIdx) (off : Off)
  /-- `JSET64_K` {JSET, K, JMP} (R213). -/
  | jset64K (d : RegIdx) (off : Off) (imm : Imm)
  /-- `JSET64_X` {JSET, X, JMP} (R214). -/
  | jset64X (d s : RegIdx) (off : Off)
  /-- `JNE64_K` {JNE, K, JMP} (R215). -/
  | jne64K (d : RegIdx) (off : Off) (imm : Imm)
  /-- `JNE64_X` {JNE, X, JMP} (R216). -/
  | jne64X (d s : RegIdx) (off : Off)
  /-- `JSGT64_K` {JSGT, K, JMP} (R217). -/
  | jsgt64K (d : RegIdx) (off : Off) (imm : Imm)
  /-- `JSGT64_X` {JSGT, X, JMP} (R218). -/
  | jsgt64X (d s : RegIdx) (off : Off)
  /-- `JSGE64_K` {JSGE, K, JMP} (R219). -/
  | jsge64K (d : RegIdx) (off : Off) (imm : Imm)
  /-- `JSGE64_X` {JSGE, X, JMP} (R220). -/
  | jsge64X (d s : RegIdx) (off : Off)
  /-- `JLT64_K` {JLT, K, JMP} (R221). -/
  | jlt64K (d : RegIdx) (off : Off) (imm : Imm)
  /-- `JLT64_X` {JLT, X, JMP} (R222). -/
  | jlt64X (d s : RegIdx) (off : Off)
  /-- `JLE64_K` {JLE, K, JMP} (R223). -/
  | jle64K (d : RegIdx) (off : Off) (imm : Imm)
  /-- `JLE64_X` {JLE, X, JMP} (R224). -/
  | jle64X (d s : RegIdx) (off : Off)
  /-- `JSLT64_K` {JSLT, K, JMP} (R225). -/
  | jslt64K (d : RegIdx) (off : Off) (imm : Imm)
  /-- `JSLT64_X` {JSLT, X, JMP} (R226). -/
  | jslt64X (d s : RegIdx) (off : Off)
  /-- `JSLE64_K` {JSLE, K, JMP} (R227). -/
  | jsle64K (d : RegIdx) (off : Off) (imm : Imm)
  /-- `JSLE64_X` {JSLE, X, JMP} (R228). -/
  | jsle64X (d s : RegIdx) (off : Off)
  /-- `JEQ32_K` {JEQ, K, JMP32} (R229). -/
  | jeq32K (d : RegIdx) (off : Off) (imm : Imm)
  /-- `JEQ32_X` {JEQ, X, JMP32} (R230). -/
  | jeq32X (d s : RegIdx) (off : Off)
  /-- `JGT32_K` {JGT, K, JMP32} (R231). -/
  | jgt32K (d : RegIdx) (off : Off) (imm : Imm)
  /-- `JGT32_X` {JGT, X, JMP32} (R232). -/
  | jgt32X (d s : RegIdx) (off : Off)
  /-- `JGE32_K` {JGE, K, JMP32} (R233). -/
  | jge32K (d : RegIdx) (off : Off) (imm : Imm)
  /-- `JGE32_X` {JGE, X, JMP32} (R234). -/
  | jge32X (d s : RegIdx) (off : Off)
  /-- `JSET32_K` {JSET, K, JMP32} (R235). -/
  | jset32K (d : RegIdx) (off : Off) (imm : Imm)
  /-- `JSET32_X` {JSET, X, JMP32} (R236). -/
  | jset32X (d s : RegIdx) (off : Off)
  /-- `JNE32_K` {JNE, K, JMP32} (R237). -/
  | jne32K (d : RegIdx) (off : Off) (imm : Imm)
  /-- `JNE32_X` {JNE, X, JMP32} (R238). -/
  | jne32X (d s : RegIdx) (off : Off)
  /-- `JSGT32_K` {JSGT, K, JMP32} (R239). -/
  | jsgt32K (d : RegIdx) (off : Off) (imm : Imm)
  /-- `JSGT32_X` {JSGT, X, JMP32} (R240). -/
  | jsgt32X (d s : RegIdx) (off : Off)
  /-- `JSGE32_K` {JSGE, K, JMP32} (R241). -/
  | jsge32K (d : RegIdx) (off : Off) (imm : Imm)
  /-- `JSGE32_X` {JSGE, X, JMP32} (R242). -/
  | jsge32X (d s : RegIdx) (off : Off)
  /-- `JLT32_K` {JLT, K, JMP32} (R243). -/
  | jlt32K (d : RegIdx) (off : Off) (imm : Imm)
  /-- `JLT32_X` {JLT, X, JMP32} (R244). -/
  | jlt32X (d s : RegIdx) (off : Off)
  /-- `JLE32_K` {JLE, K, JMP32} (R245). -/
  | jle32K (d : RegIdx) (off : Off) (imm : Imm)
  /-- `JLE32_X` {JLE, X, JMP32} (R246). -/
  | jle32X (d s : RegIdx) (off : Off)
  /-- `JSLT32_K` {JSLT, K, JMP32} (R247). -/
  | jslt32K (d : RegIdx) (off : Off) (imm : Imm)
  /-- `JSLT32_X` {JSLT, X, JMP32} (R248). -/
  | jslt32X (d s : RegIdx) (off : Off)
  /-- `JSLE32_K` {JSLE, K, JMP32} (R249). -/
  | jsle32K (d : RegIdx) (off : Off) (imm : Imm)
  /-- `JSLE32_X` {JSLE, X, JMP32} (R250). -/
  | jsle32X (d s : RegIdx) (off : Off)
  -- CALL and EXIT (spec/44_call_exit.md)
  /-- `CALL_HELPER` {CALL, K, JMP} with src_reg 0x0 (R261). -/
  | callHelper (imm : Imm)
  /-- `CALL_LOCAL` {CALL, K, JMP} with src_reg 0x1 (R262). -/
  | callLocal (imm : Imm)
  /-- `CALL_BTF` {CALL, K, JMP} with src_reg 0x2 (R263). -/
  | callBtf (imm : Imm)
  /-- `EXIT` {EXIT, K, JMP} (R264). -/
  | exit
  -- Loads and stores (spec/45_load_store.md)
  /-- `LDXW` {MEM, W, LDX} (R285). -/
  | ldxw (d s : RegIdx) (off : Off)
  /-- `LDXH` {MEM, H, LDX} (R286). -/
  | ldxh (d s : RegIdx) (off : Off)
  /-- `LDXB` {MEM, B, LDX} (R287). -/
  | ldxb (d s : RegIdx) (off : Off)
  /-- `LDXDW` {MEM, DW, LDX} (R288). -/
  | ldxdw (d s : RegIdx) (off : Off)
  /-- `STW` {MEM, W, ST} (R289). -/
  | stw (d : RegIdx) (off : Off) (imm : Imm)
  /-- `STH` {MEM, H, ST} (R290). -/
  | sth (d : RegIdx) (off : Off) (imm : Imm)
  /-- `STB` {MEM, B, ST} (R291). -/
  | stb (d : RegIdx) (off : Off) (imm : Imm)
  /-- `STDW` {MEM, DW, ST} (R292). -/
  | stdw (d : RegIdx) (off : Off) (imm : Imm)
  /-- `STXW` {MEM, W, STX} (R293). -/
  | stxw (d s : RegIdx) (off : Off)
  /-- `STXH` {MEM, H, STX} (R294). -/
  | stxh (d s : RegIdx) (off : Off)
  /-- `STXB` {MEM, B, STX} (R295). -/
  | stxb (d s : RegIdx) (off : Off)
  /-- `STXDW` {MEM, DW, STX} (R296). -/
  | stxdw (d s : RegIdx) (off : Off)
  /-- `LDXSW` {MEMSX, W, LDX} (R297). -/
  | ldxsw (d s : RegIdx) (off : Off)
  /-- `LDXSH` {MEMSX, H, LDX} (R298). -/
  | ldxsh (d s : RegIdx) (off : Off)
  /-- `LDXSB` {MEMSX, B, LDX} (R299). -/
  | ldxsb (d s : RegIdx) (off : Off)
  -- Atomic operations (spec/46_atomic.md)
  /-- `ATOMIC_ADD32` {ATOMIC, W, STX} with 'imm' = ADD (R319). -/
  | atomicAdd32 (d s : RegIdx) (off : Off)
  /-- `ATOMIC_FETCH_ADD32` {ATOMIC, W, STX} with 'imm' = ADD | FETCH (R320). -/
  | atomicFetchAdd32 (d s : RegIdx) (off : Off)
  /-- `ATOMIC_OR32` {ATOMIC, W, STX} with 'imm' = OR (R321). -/
  | atomicOr32 (d s : RegIdx) (off : Off)
  /-- `ATOMIC_FETCH_OR32` {ATOMIC, W, STX} with 'imm' = OR | FETCH (R322). -/
  | atomicFetchOr32 (d s : RegIdx) (off : Off)
  /-- `ATOMIC_AND32` {ATOMIC, W, STX} with 'imm' = AND (R323). -/
  | atomicAnd32 (d s : RegIdx) (off : Off)
  /-- `ATOMIC_FETCH_AND32` {ATOMIC, W, STX} with 'imm' = AND | FETCH (R324). -/
  | atomicFetchAnd32 (d s : RegIdx) (off : Off)
  /-- `ATOMIC_XOR32` {ATOMIC, W, STX} with 'imm' = XOR (R325). -/
  | atomicXor32 (d s : RegIdx) (off : Off)
  /-- `ATOMIC_FETCH_XOR32` {ATOMIC, W, STX} with 'imm' = XOR | FETCH (R326). -/
  | atomicFetchXor32 (d s : RegIdx) (off : Off)
  /-- `XCHG32` {ATOMIC, W, STX} with 'imm' = XCHG (0xe0 | FETCH) (R327). -/
  | xchg32 (d s : RegIdx) (off : Off)
  /-- `CMPXCHG32` {ATOMIC, W, STX} with 'imm' = CMPXCHG (0xf0 | FETCH) (R328). -/
  | cmpxchg32 (d s : RegIdx) (off : Off)
  /-- `ATOMIC_ADD64` {ATOMIC, DW, STX} with 'imm' = ADD (R329). -/
  | atomicAdd64 (d s : RegIdx) (off : Off)
  /-- `ATOMIC_FETCH_ADD64` {ATOMIC, DW, STX} with 'imm' = ADD | FETCH (R330). -/
  | atomicFetchAdd64 (d s : RegIdx) (off : Off)
  /-- `ATOMIC_OR64` {ATOMIC, DW, STX} with 'imm' = OR (R331). -/
  | atomicOr64 (d s : RegIdx) (off : Off)
  /-- `ATOMIC_FETCH_OR64` {ATOMIC, DW, STX} with 'imm' = OR | FETCH (R332). -/
  | atomicFetchOr64 (d s : RegIdx) (off : Off)
  /-- `ATOMIC_AND64` {ATOMIC, DW, STX} with 'imm' = AND (R333). -/
  | atomicAnd64 (d s : RegIdx) (off : Off)
  /-- `ATOMIC_FETCH_AND64` {ATOMIC, DW, STX} with 'imm' = AND | FETCH (R334). -/
  | atomicFetchAnd64 (d s : RegIdx) (off : Off)
  /-- `ATOMIC_XOR64` {ATOMIC, DW, STX} with 'imm' = XOR (R335). -/
  | atomicXor64 (d s : RegIdx) (off : Off)
  /-- `ATOMIC_FETCH_XOR64` {ATOMIC, DW, STX} with 'imm' = XOR | FETCH (R336). -/
  | atomicFetchXor64 (d s : RegIdx) (off : Off)
  /-- `XCHG64` {ATOMIC, DW, STX} with 'imm' = XCHG (0xe0 | FETCH) (R337). -/
  | xchg64 (d s : RegIdx) (off : Off)
  /-- `CMPXCHG64` {ATOMIC, DW, STX} with 'imm' = CMPXCHG (0xf0 | FETCH) (R338). -/
  | cmpxchg64 (d s : RegIdx) (off : Off)
  -- 64-bit immediates (wide) (spec/47_imm64.md)
  /-- `LDDW_IMM` {IMM, DW, LD} with src_reg 0x0 (R342). -/
  | lddwImm (d : RegIdx) (imm nextImm : Imm)
  /-- `LDDW_MAP_FD` {IMM, DW, LD} with src_reg 0x1 (R343). -/
  | lddwMapFd (d : RegIdx) (imm : Imm)
  /-- `LDDW_MAP_FD_VAL` {IMM, DW, LD} with src_reg 0x2 (R344). -/
  | lddwMapFdVal (d : RegIdx) (imm nextImm : Imm)
  /-- `LDDW_VAR` {IMM, DW, LD} with src_reg 0x3 (R345). -/
  | lddwVar (d : RegIdx) (imm : Imm)
  /-- `LDDW_CODE` {IMM, DW, LD} with src_reg 0x4 (R346). -/
  | lddwCode (d : RegIdx) (imm : Imm)
  /-- `LDDW_MAP_IDX` {IMM, DW, LD} with src_reg 0x5 (R347). -/
  | lddwMapIdx (d : RegIdx) (imm : Imm)
  /-- `LDDW_MAP_IDX_VAL` {IMM, DW, LD} with src_reg 0x6 (R348). -/
  | lddwMapIdxVal (d : RegIdx) (imm nextImm : Imm)
  -- Legacy packet access (spec/48_packet.md)
  /-- `LDABSW` {ABS, W, LD} (R362). -/
  | ldabsw (imm : Imm)
  /-- `LDABSH` {ABS, H, LD} (R363). -/
  | ldabsh (imm : Imm)
  /-- `LDABSB` {ABS, B, LD} (R364). -/
  | ldabsb (imm : Imm)
  /-- `LDINDW` {IND, W, LD} (R365). -/
  | ldindw (s : RegIdx) (imm : Imm)
  /-- `LDINDH` {IND, H, LD} (R366). -/
  | ldindh (s : RegIdx) (imm : Imm)
  /-- `LDINDB` {IND, B, LD} (R367). -/
  | ldindb (s : RegIdx) (imm : Imm)
  /-- `IMM64_SECOND_SLOT` (additional immediate value) (R349). -/
  | imm64SecondSlot (nextImm : Imm)
  deriving DecidableEq, Repr, Inhabited

end Sys2Proof
end

