-- ==== Sys2Proof/WellFormed.lean ====
section
/-! DEFINITION. Which terms of `Instr` are instructions. The types already keep every operand inside its field
(R88); what is left is that the second slot of a wide instruction is no instruction (R349). -/
namespace Sys2Proof

/-- The table row `IMM64_SECOND_SLOT` is never selected for a slot at which execution starts (R86, R349);
every other constructor is an instruction, with any operands. -/
def Instr.wf : Instr → Bool
  | .imm64SecondSlot _ => false
  | .add32K _ _ => true
  | .add32X _ _ => true
  | .sub32K _ _ => true
  | .sub32X _ _ => true
  | .mul32K _ _ => true
  | .mul32X _ _ => true
  | .div32K _ _ => true
  | .div32X _ _ => true
  | .sdiv32K _ _ => true
  | .sdiv32X _ _ => true
  | .or32K _ _ => true
  | .or32X _ _ => true
  | .and32K _ _ => true
  | .and32X _ _ => true
  | .lsh32K _ _ => true
  | .lsh32X _ _ => true
  | .rsh32K _ _ => true
  | .rsh32X _ _ => true
  | .neg32 _ => true
  | .mod32K _ _ => true
  | .mod32X _ _ => true
  | .smod32K _ _ => true
  | .smod32X _ _ => true
  | .xor32K _ _ => true
  | .xor32X _ _ => true
  | .mov32K _ _ => true
  | .mov32X _ _ => true
  | .movsx32_8 _ _ => true
  | .movsx32_16 _ _ => true
  | .arsh32K _ _ => true
  | .arsh32X _ _ => true
  | .add64K _ _ => true
  | .add64X _ _ => true
  | .sub64K _ _ => true
  | .sub64X _ _ => true
  | .mul64K _ _ => true
  | .mul64X _ _ => true
  | .div64K _ _ => true
  | .div64X _ _ => true
  | .sdiv64K _ _ => true
  | .sdiv64X _ _ => true
  | .or64K _ _ => true
  | .or64X _ _ => true
  | .and64K _ _ => true
  | .and64X _ _ => true
  | .lsh64K _ _ => true
  | .lsh64X _ _ => true
  | .rsh64K _ _ => true
  | .rsh64X _ _ => true
  | .neg64 _ => true
  | .mod64K _ _ => true
  | .mod64X _ _ => true
  | .smod64K _ _ => true
  | .smod64X _ _ => true
  | .xor64K _ _ => true
  | .xor64X _ _ => true
  | .mov64K _ _ => true
  | .mov64X _ _ => true
  | .movsx64_8 _ _ => true
  | .movsx64_16 _ _ => true
  | .movsx64_32 _ _ => true
  | .arsh64K _ _ => true
  | .arsh64X _ _ => true
  | .le16 _ => true
  | .le32 _ => true
  | .le64 _ => true
  | .be16 _ => true
  | .be32 _ => true
  | .be64 _ => true
  | .bswap16 _ => true
  | .bswap32 _ => true
  | .bswap64 _ => true
  | .ja _ => true
  | .ja32 _ => true
  | .jeq64K _ _ _ => true
  | .jeq64X _ _ _ => true
  | .jgt64K _ _ _ => true
  | .jgt64X _ _ _ => true
  | .jge64K _ _ _ => true
  | .jge64X _ _ _ => true
  | .jset64K _ _ _ => true
  | .jset64X _ _ _ => true
  | .jne64K _ _ _ => true
  | .jne64X _ _ _ => true
  | .jsgt64K _ _ _ => true
  | .jsgt64X _ _ _ => true
  | .jsge64K _ _ _ => true
  | .jsge64X _ _ _ => true
  | .jlt64K _ _ _ => true
  | .jlt64X _ _ _ => true
  | .jle64K _ _ _ => true
  | .jle64X _ _ _ => true
  | .jslt64K _ _ _ => true
  | .jslt64X _ _ _ => true
  | .jsle64K _ _ _ => true
  | .jsle64X _ _ _ => true
  | .jeq32K _ _ _ => true
  | .jeq32X _ _ _ => true
  | .jgt32K _ _ _ => true
  | .jgt32X _ _ _ => true
  | .jge32K _ _ _ => true
  | .jge32X _ _ _ => true
  | .jset32K _ _ _ => true
  | .jset32X _ _ _ => true
  | .jne32K _ _ _ => true
  | .jne32X _ _ _ => true
  | .jsgt32K _ _ _ => true
  | .jsgt32X _ _ _ => true
  | .jsge32K _ _ _ => true
  | .jsge32X _ _ _ => true
  | .jlt32K _ _ _ => true
  | .jlt32X _ _ _ => true
  | .jle32K _ _ _ => true
  | .jle32X _ _ _ => true
  | .jslt32K _ _ _ => true
  | .jslt32X _ _ _ => true
  | .jsle32K _ _ _ => true
  | .jsle32X _ _ _ => true
  | .callHelper _ => true
  | .callLocal _ => true
  | .callBtf _ => true
  | .exit => true
  | .ldxw _ _ _ => true
  | .ldxh _ _ _ => true
  | .ldxb _ _ _ => true
  | .ldxdw _ _ _ => true
  | .stw _ _ _ => true
  | .sth _ _ _ => true
  | .stb _ _ _ => true
  | .stdw _ _ _ => true
  | .stxw _ _ _ => true
  | .stxh _ _ _ => true
  | .stxb _ _ _ => true
  | .stxdw _ _ _ => true
  | .ldxsw _ _ _ => true
  | .ldxsh _ _ _ => true
  | .ldxsb _ _ _ => true
  | .atomicAdd32 _ _ _ => true
  | .atomicFetchAdd32 _ _ _ => true
  | .atomicOr32 _ _ _ => true
  | .atomicFetchOr32 _ _ _ => true
  | .atomicAnd32 _ _ _ => true
  | .atomicFetchAnd32 _ _ _ => true
  | .atomicXor32 _ _ _ => true
  | .atomicFetchXor32 _ _ _ => true
  | .xchg32 _ _ _ => true
  | .cmpxchg32 _ _ _ => true
  | .atomicAdd64 _ _ _ => true
  | .atomicFetchAdd64 _ _ _ => true
  | .atomicOr64 _ _ _ => true
  | .atomicFetchOr64 _ _ _ => true
  | .atomicAnd64 _ _ _ => true
  | .atomicFetchAnd64 _ _ _ => true
  | .atomicXor64 _ _ _ => true
  | .atomicFetchXor64 _ _ _ => true
  | .xchg64 _ _ _ => true
  | .cmpxchg64 _ _ _ => true
  | .lddwImm _ _ _ => true
  | .lddwMapFd _ _ => true
  | .lddwMapFdVal _ _ _ => true
  | .lddwVar _ _ => true
  | .lddwCode _ _ => true
  | .lddwMapIdx _ _ => true
  | .lddwMapIdxVal _ _ _ => true
  | .ldabsw _ => true
  | .ldabsh _ => true
  | .ldabsb _ => true
  | .ldindw _ _ => true
  | .ldindh _ _ => true
  | .ldindb _ _ => true

end Sys2Proof
end

