-- ==== Sys2Proof/Decode.lean ====
section
/-! DEFINITION. Instruction decoding and encoding (spec/30_encoding.md): the byte layouts of a slot, the canonical
word, the opcode tables, the decoder (total, rejecting by name), the conformance groups, and the encoder. -/
namespace Sys2Proof

/-! ## The fields of a slot -/

/-- The five fields of a slot's canonical word (R76). -/
structure Fields where
  opcode : Byte
  dst    : BitVec 4
  src    : BitVec 4
  off    : Off
  imm    : Imm
  deriving DecidableEq, Repr, Inhabited

/-- The fields of a canonical word: opcode 7:0, dst_reg 11:8, src_reg 15:12, offset 31:16, imm 63:32 (R76). -/
def fieldsOf (w : InsnWord) : Fields where
  opcode := w.extractLsb' 0 8
  dst    := w.extractLsb' 8 4
  src    := w.extractLsb' 12 4
  off    := w.extractLsb' 16 16
  imm    := w.extractLsb' 32 32

/-- The canonical word with these fields (R76). -/
def wordOf (f : Fields) : InsnWord :=
  f.opcode.setWidth 64 ||| f.dst.setWidth 64 <<< 8 ||| f.src.setWidth 64 <<< 12 ||| f.off.setWidth 64 <<< 16
    ||| f.imm.setWidth 64 <<< 32

/-- Byte `i` of a slot in program memory, byte 0 first (R71). -/
def slotByte (s : Slot) (i : Nat) : Byte :=
  s.extractLsb' (8 * i) 8

/-- Two bytes as 16 bits, the low one first. -/
def join16 (lo hi : Byte) : BitVec 16 := lo.setWidth 16 ||| hi.setWidth 16 <<< 8

/-- Four bytes as 32 bits, the lowest one first. -/
def join32 (b0 b1 b2 b3 : Byte) : BitVec 32 :=
  b0.setWidth 32 ||| b1.setWidth 32 <<< 8 ||| b2.setWidth 32 <<< 16 ||| b3.setWidth 32 <<< 24

/-- Two nibbles as a byte, the low one first. -/
def joinNibbles (lo hi : BitVec 4) : Byte := lo.setWidth 8 ||| hi.setWidth 8 <<< 4

/-- The canonical word of a slot, field by field from its bytes (R72 to R76). The byte order changes the places
of the two register nibbles (R73) and the order of the bytes of `offset` (R74) and `imm` (R75). -/
def wordOfSlot (e : Endian) (s : Slot) : InsnWord :=
  let b := slotByte s
  match e with
  | .little => wordOf
      { opcode := b 0
        dst    := (b 1).extractLsb' 0 4
        src    := (b 1).extractLsb' 4 4
        off    := join16 (b 2) (b 3)
        imm    := join32 (b 4) (b 5) (b 6) (b 7) }
  | .big => wordOf
      { opcode := b 0
        dst    := (b 1).extractLsb' 4 4
        src    := (b 1).extractLsb' 0 4
        off    := join16 (b 3) (b 2)
        imm    := join32 (b 7) (b 6) (b 5) (b 4) }

/-- The slot whose eight bytes, byte 0 first, are given. -/
def slotOfBytes (b0 b1 b2 b3 b4 b5 b6 b7 : Byte) : Slot :=
  b0.setWidth 64 ||| b1.setWidth 64 <<< 8 ||| b2.setWidth 64 <<< 16 ||| b3.setWidth 64 <<< 24
    ||| b4.setWidth 64 <<< 32 ||| b5.setWidth 64 <<< 40 ||| b6.setWidth 64 <<< 48 ||| b7.setWidth 64 <<< 56

/-- The slot that holds a canonical word: the layout of R71 to R75 written byte by byte. -/
def slotOfWord (e : Endian) (w : InsnWord) : Slot :=
  let f := fieldsOf w
  let immByte (i : Nat) : Byte := f.imm.extractLsb' (8 * i) 8
  let offByte (i : Nat) : Byte := f.off.extractLsb' (8 * i) 8
  match e with
  | .little => slotOfBytes f.opcode (joinNibbles f.dst f.src) (offByte 0) (offByte 1)
      (immByte 0) (immByte 1) (immByte 2) (immByte 3)
  | .big => slotOfBytes f.opcode (joinNibbles f.src f.dst) (offByte 1) (offByte 0)
      (immByte 3) (immByte 2) (immByte 1) (immByte 0)

/-! ## Rejections -/

/-- Why the decoder answers `Illegal` (R85, R87). Every one of them is `IllegalInstruction` at execution (R403). -/
inductive Reject where
  /-- An opcode byte outside the 125 of R91, `0x00` among them (R86). -/
  | reservedOpcode
  /-- A selector field (`offset`, `imm` or `src_reg`) with a value the tables do not list (R87). -/
  | reservedSelector
  /-- A non-zero value in a field the instruction does not use (R84). -/
  | unusedField
  /-- A register field holding 11 to 15 (R88). -/
  | badRegister
  /-- A wide instruction in the last slot of the program (R85 step 5). -/
  | truncatedWide
  /-- A second slot whose low 32 bits are not zero, or whose `next_imm` is not zero in a subtype that does not
  use it (R77, R87). -/
  | badSecondSlot
  /-- The instruction's conformance group is not supported (R85 step 6). -/
  | unsupportedGroup
  /-- Fewer than eight bytes are left where an instruction should start (`decodeBytes` only; the machine
  reads whole slots). -/
  | noSlot
  deriving DecidableEq, Repr, Inhabited

/-! ## Encoding forms -/

/-- The register a 4-bit field names; 11 to 15 name none (R88). -/
def regOfField (v : BitVec 4) : Option RegIdx :=
  match v.toNat with
  | 0 => some .r0
  | 1 => some .r1
  | 2 => some .r2
  | 3 => some .r3
  | 4 => some .r4
  | 5 => some .r5
  | 6 => some .r6
  | 7 => some .r7
  | 8 => some .r8
  | 9 => some .r9
  | 10 => some .r10
  | _ => none

/-- The 4-bit field that names a register (R20). -/
def fieldOfReg : RegIdx → BitVec 4
  | .r0 => 0
  | .r1 => 1
  | .r2 => 2
  | .r3 => 3
  | .r4 => 4
  | .r5 => 5
  | .r6 => 6
  | .r7 => 7
  | .r8 => 8
  | .r9 => 9
  | .r10 => 10

/-- What decoding one opcode byte does with the fields and, for the wide opcode, with the canonical word of the
next slot (`none` where the program ends). -/
abbrev Arm := Fields → Option InsnWord → Except Reject Instr

/-- Use a field as a register number (R85 step 4). -/
def useReg (v : BitVec 4) (k : RegIdx → Except Reject Instr) : Except Reject Instr :=
  match regOfField v with
  | some r => k r
  | none => .error .badRegister

/-- The fields the row fixes at zero are zero (R84), or the slot matches no row. -/
def unusedZero (ok : Bool) (k : Except Reject Instr) : Except Reject Instr :=
  if ok then k else .error .unusedField

/-- Choose a row by the value of a selector field (R85 step 2). -/
def select (v : Nat) (rows : List (Nat × Arm)) : Arm := fun f next =>
  match rows.lookup v with
  | some arm => arm f next
  | none => .error .reservedSelector

/-- Choose by `offset` (R104). -/
def byOff (rows : List (Nat × Arm)) : Arm := fun f next => select f.off.toNat rows f next

/-- Choose by `imm` (R180, R311). -/
def byImm (rows : List (Nat × Arm)) : Arm := fun f next => select f.imm.toNat rows f next

/-- Choose by `src_reg` (R260, R340). -/
def bySrc (rows : List (Nat × Arm)) : Arm := fun f next => select f.src.toNat rows f next

/-- ALU and ALU64 with an immediate operand; `offset` has been chosen on. -/
def formK (mk : RegIdx → Imm → Instr) : Arm := fun f _ =>
  unusedZero (f.src == 0) (useReg f.dst fun d => .ok (mk d f.imm))

/-- ALU and ALU64 with a register operand; `offset` has been chosen on. -/
def formX (mk : RegIdx → RegIdx → Instr) : Arm := fun f _ =>
  unusedZero (f.imm == 0) (useReg f.dst fun d => useReg f.src fun s => .ok (mk d s))

/-- NEG: the destination alone. -/
def formNeg (mk : RegIdx → Instr) : Arm := fun f _ =>
  unusedZero (f.src == 0 && f.off == 0 && f.imm == 0) (useReg f.dst fun d => .ok (mk d))

/-- END: the destination alone; `imm` has been chosen on. -/
def formEnd (mk : RegIdx → Instr) : Arm := fun f _ =>
  unusedZero (f.src == 0 && f.off == 0) (useReg f.dst fun d => .ok (mk d))

/-- JA: `offset` alone. -/
def formJa (mk : Off → Instr) : Arm := fun f _ =>
  unusedZero (f.dst == 0 && f.src == 0 && f.imm == 0) (.ok (mk f.off))

/-- JA32: `imm` alone. -/
def formJa32 (mk : Imm → Instr) : Arm := fun f _ =>
  unusedZero (f.dst == 0 && f.src == 0 && f.off == 0) (.ok (mk f.imm))

/-- CALL: `imm` alone; `src_reg` has been chosen on. -/
def formCall (mk : Imm → Instr) : Arm := fun f _ =>
  unusedZero (f.dst == 0 && f.off == 0) (.ok (mk f.imm))

/-- EXIT: no field. -/
def formExit (i : Instr) : Arm := fun f _ =>
  unusedZero (f.dst == 0 && f.src == 0 && f.off == 0 && f.imm == 0) (.ok i)

/-- Conditional jumps with an immediate, and stores of an immediate: destination, `offset`, `imm`. -/
def formJumpK (mk : RegIdx → Off → Imm → Instr) : Arm := fun f _ =>
  unusedZero (f.src == 0) (useReg f.dst fun d => .ok (mk d f.off f.imm))

/-- Conditional jumps with a register, loads and stores of a register: two registers and `offset`. -/
def formOff (mk : RegIdx → RegIdx → Off → Instr) : Arm := fun f _ =>
  unusedZero (f.imm == 0) (useReg f.dst fun d => useReg f.src fun s => .ok (mk d s f.off))

/-- Atomics: two registers and `offset`; `imm` has been chosen on. -/
def formAtomic (mk : RegIdx → RegIdx → Off → Instr) : Arm := fun f _ =>
  useReg f.dst fun d => useReg f.src fun s => .ok (mk d s f.off)

/-- The second slot of a wide instruction (R85 step 5): it must be there and have its low 32 bits zero. -/
def useNext (next : Option InsnWord) (k : Imm → Except Reject Instr) : Except Reject Instr :=
  match next with
  | none => .error .truncatedWide
  | some w => if w.extractLsb' 0 32 == 0 then k (w.extractLsb' 32 32) else .error .badSecondSlot

/-- LDDW with a used `next_imm`; `src_reg` has been chosen on. -/
def formWide (mk : RegIdx → Imm → Imm → Instr) : Arm := fun f next =>
  unusedZero (f.off == 0) (useReg f.dst fun d => useNext next fun n => .ok (mk d f.imm n))

/-- LDDW with an unused `next_imm`, which must be zero (R87, decision D35). -/
def formWideNoNext (mk : RegIdx → Imm → Instr) : Arm := fun f next =>
  unusedZero (f.off == 0) (useReg f.dst fun d => useNext next fun n =>
    if n == 0 then .ok (mk d f.imm) else .error .badSecondSlot)

/-- LD ABS: `imm` alone. -/
def formAbs (mk : Imm → Instr) : Arm := fun f _ =>
  unusedZero (f.dst == 0 && f.src == 0 && f.off == 0) (.ok (mk f.imm))

/-- LD IND: source register and `imm`. -/
def formInd (mk : RegIdx → Imm → Instr) : Arm := fun f _ =>
  unusedZero (f.dst == 0 && f.off == 0) (useReg f.src fun s => .ok (mk s f.imm))

/-! ## The opcode tables: the 125 defined opcode bytes (R91) -/

/-- Class ALU without END: the opcode bytes of R80, column ALU. -/
def aluTable : List (Nat × Arm) :=
  [ (0x04, byOff [(0, formK .add32K)])
  , (0x0c, byOff [(0, formX .add32X)])
  , (0x14, byOff [(0, formK .sub32K)])
  , (0x1c, byOff [(0, formX .sub32X)])
  , (0x24, byOff [(0, formK .mul32K)])
  , (0x2c, byOff [(0, formX .mul32X)])
  , (0x34, byOff [(0, formK .div32K), (1, formK .sdiv32K)])
  , (0x3c, byOff [(0, formX .div32X), (1, formX .sdiv32X)])
  , (0x44, byOff [(0, formK .or32K)])
  , (0x4c, byOff [(0, formX .or32X)])
  , (0x54, byOff [(0, formK .and32K)])
  , (0x5c, byOff [(0, formX .and32X)])
  , (0x64, byOff [(0, formK .lsh32K)])
  , (0x6c, byOff [(0, formX .lsh32X)])
  , (0x74, byOff [(0, formK .rsh32K)])
  , (0x7c, byOff [(0, formX .rsh32X)])
  , (0x84, formNeg .neg32)
  , (0x94, byOff [(0, formK .mod32K), (1, formK .smod32K)])
  , (0x9c, byOff [(0, formX .mod32X), (1, formX .smod32X)])
  , (0xa4, byOff [(0, formK .xor32K)])
  , (0xac, byOff [(0, formX .xor32X)])
  , (0xb4, byOff [(0, formK .mov32K)])
  , (0xbc, byOff [(0, formX .mov32X), (8, formX .movsx32_8), (16, formX .movsx32_16)])
  , (0xc4, byOff [(0, formK .arsh32K)])
  , (0xcc, byOff [(0, formX .arsh32X)])
  ]

/-- Class ALU64 without END: the opcode bytes of R80, column ALU64. -/
def alu64Table : List (Nat × Arm) :=
  [ (0x07, byOff [(0, formK .add64K)])
  , (0x0f, byOff [(0, formX .add64X)])
  , (0x17, byOff [(0, formK .sub64K)])
  , (0x1f, byOff [(0, formX .sub64X)])
  , (0x27, byOff [(0, formK .mul64K)])
  , (0x2f, byOff [(0, formX .mul64X)])
  , (0x37, byOff [(0, formK .div64K), (1, formK .sdiv64K)])
  , (0x3f, byOff [(0, formX .div64X), (1, formX .sdiv64X)])
  , (0x47, byOff [(0, formK .or64K)])
  , (0x4f, byOff [(0, formX .or64X)])
  , (0x57, byOff [(0, formK .and64K)])
  , (0x5f, byOff [(0, formX .and64X)])
  , (0x67, byOff [(0, formK .lsh64K)])
  , (0x6f, byOff [(0, formX .lsh64X)])
  , (0x77, byOff [(0, formK .rsh64K)])
  , (0x7f, byOff [(0, formX .rsh64X)])
  , (0x87, formNeg .neg64)
  , (0x97, byOff [(0, formK .mod64K), (1, formK .smod64K)])
  , (0x9f, byOff [(0, formX .mod64X), (1, formX .smod64X)])
  , (0xa7, byOff [(0, formK .xor64K)])
  , (0xaf, byOff [(0, formX .xor64X)])
  , (0xb7, byOff [(0, formK .mov64K)])
  , (0xbf, byOff [(0, formX .mov64X), (8, formX .movsx64_8), (16, formX .movsx64_16), (32, formX .movsx64_32)])
  , (0xc7, byOff [(0, formK .arsh64K)])
  , (0xcf, byOff [(0, formX .arsh64X)])
  ]

/-- The byte swaps (R180): `imm` selects the width. -/
def endTable : List (Nat × Arm) :=
  [ (0xd4, byImm [(16, formEnd .le16), (32, formEnd .le32), (64, formEnd .le64)])
  , (0xdc, byImm [(16, formEnd .be16), (32, formEnd .be32), (64, formEnd .be64)])
  , (0xd7, byImm [(16, formEnd .bswap16), (32, formEnd .bswap32), (64, formEnd .bswap64)])
  ]

/-- Class JMP (R81): JA, the conditional jumps, CALL and EXIT. -/
def jmpTable : List (Nat × Arm) :=
  [ (0x05, formJa .ja)
  , (0x15, formJumpK .jeq64K)
  , (0x1d, formOff .jeq64X)
  , (0x25, formJumpK .jgt64K)
  , (0x2d, formOff .jgt64X)
  , (0x35, formJumpK .jge64K)
  , (0x3d, formOff .jge64X)
  , (0x45, formJumpK .jset64K)
  , (0x4d, formOff .jset64X)
  , (0x55, formJumpK .jne64K)
  , (0x5d, formOff .jne64X)
  , (0x65, formJumpK .jsgt64K)
  , (0x6d, formOff .jsgt64X)
  , (0x75, formJumpK .jsge64K)
  , (0x7d, formOff .jsge64X)
  , (0xa5, formJumpK .jlt64K)
  , (0xad, formOff .jlt64X)
  , (0xb5, formJumpK .jle64K)
  , (0xbd, formOff .jle64X)
  , (0xc5, formJumpK .jslt64K)
  , (0xcd, formOff .jslt64X)
  , (0xd5, formJumpK .jsle64K)
  , (0xdd, formOff .jsle64X)
  , (0x85, bySrc [(0, formCall .callHelper), (1, formCall .callLocal), (2, formCall .callBtf)])
  , (0x95, formExit .exit)
  ]

/-- Class JMP32 (R81): JA32 and the conditional jumps. -/
def jmp32Table : List (Nat × Arm) :=
  [ (0x06, formJa32 .ja32)
  , (0x16, formJumpK .jeq32K)
  , (0x1e, formOff .jeq32X)
  , (0x26, formJumpK .jgt32K)
  , (0x2e, formOff .jgt32X)
  , (0x36, formJumpK .jge32K)
  , (0x3e, formOff .jge32X)
  , (0x46, formJumpK .jset32K)
  , (0x4e, formOff .jset32X)
  , (0x56, formJumpK .jne32K)
  , (0x5e, formOff .jne32X)
  , (0x66, formJumpK .jsgt32K)
  , (0x6e, formOff .jsgt32X)
  , (0x76, formJumpK .jsge32K)
  , (0x7e, formOff .jsge32X)
  , (0xa6, formJumpK .jlt32K)
  , (0xae, formOff .jlt32X)
  , (0xb6, formJumpK .jle32K)
  , (0xbe, formOff .jle32X)
  , (0xc6, formJumpK .jslt32K)
  , (0xce, formOff .jslt32X)
  , (0xd6, formJumpK .jsle32K)
  , (0xde, formOff .jsle32X)
  ]

/-- Modes MEM and MEMSX (R83). -/
def loadStoreTable : List (Nat × Arm) :=
  [ (0x61, formOff .ldxw)
  , (0x69, formOff .ldxh)
  , (0x71, formOff .ldxb)
  , (0x79, formOff .ldxdw)
  , (0x62, formJumpK .stw)
  , (0x6a, formJumpK .sth)
  , (0x72, formJumpK .stb)
  , (0x7a, formJumpK .stdw)
  , (0x63, formOff .stxw)
  , (0x6b, formOff .stxh)
  , (0x73, formOff .stxb)
  , (0x7b, formOff .stxdw)
  , (0x81, formOff .ldxsw)
  , (0x89, formOff .ldxsh)
  , (0x91, formOff .ldxsb)
  ]

/-- Mode ATOMIC (R83, R311): `imm` selects the operation. -/
def atomicTable : List (Nat × Arm) :=
  [ (0xc3, byImm [(0x00, formAtomic .atomicAdd32), (0x01, formAtomic .atomicFetchAdd32),
        (0x40, formAtomic .atomicOr32), (0x41, formAtomic .atomicFetchOr32), (0x50, formAtomic .atomicAnd32),
        (0x51, formAtomic .atomicFetchAnd32), (0xa0, formAtomic .atomicXor32),
        (0xa1, formAtomic .atomicFetchXor32), (0xe1, formAtomic .xchg32), (0xf1, formAtomic .cmpxchg32)])
  , (0xdb, byImm [(0x00, formAtomic .atomicAdd64), (0x01, formAtomic .atomicFetchAdd64),
        (0x40, formAtomic .atomicOr64), (0x41, formAtomic .atomicFetchOr64), (0x50, formAtomic .atomicAnd64),
        (0x51, formAtomic .atomicFetchAnd64), (0xa0, formAtomic .atomicXor64),
        (0xa1, formAtomic .atomicFetchXor64), (0xe1, formAtomic .xchg64), (0xf1, formAtomic .cmpxchg64)])
  ]

/-- The wide instructions (R340): `src_reg` selects the subtype. -/
def imm64Table : List (Nat × Arm) :=
  [ (0x18, bySrc [(0, formWide .lddwImm), (1, formWideNoNext .lddwMapFd), (2, formWide .lddwMapFdVal),
        (3, formWideNoNext .lddwVar), (4, formWideNoNext .lddwCode), (5, formWideNoNext .lddwMapIdx),
        (6, formWide .lddwMapIdxVal)])
  ]

/-- The legacy packet instructions (R360). -/
def packetTable : List (Nat × Arm) :=
  [ (0x20, formAbs .ldabsw)
  , (0x28, formAbs .ldabsh)
  , (0x30, formAbs .ldabsb)
  , (0x40, formInd .ldindw)
  , (0x48, formInd .ldindh)
  , (0x50, formInd .ldindb)
  ]

/-- All defined opcode bytes (R91). -/
def opcodeTable : List (Nat × Arm) :=
  aluTable ++ alu64Table ++ endTable ++ jmpTable ++ jmp32Table ++ loadStoreTable ++ atomicTable ++ imm64Table
    ++ packetTable

/-! ## Conformance groups -/

/-- The conformance group of an instruction (R93). -/
def Instr.group : Instr → Group
  | .add32K _ _ => .base32
  | .add32X _ _ => .base32
  | .sub32K _ _ => .base32
  | .sub32X _ _ => .base32
  | .mul32K _ _ => .divmul32
  | .mul32X _ _ => .divmul32
  | .div32K _ _ => .divmul32
  | .div32X _ _ => .divmul32
  | .sdiv32K _ _ => .divmul32
  | .sdiv32X _ _ => .divmul32
  | .or32K _ _ => .base32
  | .or32X _ _ => .base32
  | .and32K _ _ => .base32
  | .and32X _ _ => .base32
  | .lsh32K _ _ => .base32
  | .lsh32X _ _ => .base32
  | .rsh32K _ _ => .base32
  | .rsh32X _ _ => .base32
  | .neg32 _ => .base32
  | .mod32K _ _ => .divmul32
  | .mod32X _ _ => .divmul32
  | .smod32K _ _ => .divmul32
  | .smod32X _ _ => .divmul32
  | .xor32K _ _ => .base32
  | .xor32X _ _ => .base32
  | .mov32K _ _ => .base32
  | .mov32X _ _ => .base32
  | .movsx32_8 _ _ => .base32
  | .movsx32_16 _ _ => .base32
  | .arsh32K _ _ => .base32
  | .arsh32X _ _ => .base32
  | .add64K _ _ => .base64
  | .add64X _ _ => .base64
  | .sub64K _ _ => .base64
  | .sub64X _ _ => .base64
  | .mul64K _ _ => .divmul64
  | .mul64X _ _ => .divmul64
  | .div64K _ _ => .divmul64
  | .div64X _ _ => .divmul64
  | .sdiv64K _ _ => .divmul64
  | .sdiv64X _ _ => .divmul64
  | .or64K _ _ => .base64
  | .or64X _ _ => .base64
  | .and64K _ _ => .base64
  | .and64X _ _ => .base64
  | .lsh64K _ _ => .base64
  | .lsh64X _ _ => .base64
  | .rsh64K _ _ => .base64
  | .rsh64X _ _ => .base64
  | .neg64 _ => .base64
  | .mod64K _ _ => .divmul64
  | .mod64X _ _ => .divmul64
  | .smod64K _ _ => .divmul64
  | .smod64X _ _ => .divmul64
  | .xor64K _ _ => .base64
  | .xor64X _ _ => .base64
  | .mov64K _ _ => .base64
  | .mov64X _ _ => .base64
  | .movsx64_8 _ _ => .base64
  | .movsx64_16 _ _ => .base64
  | .movsx64_32 _ _ => .base64
  | .arsh64K _ _ => .base64
  | .arsh64X _ _ => .base64
  | .le16 _ => .base32
  | .le32 _ => .base32
  | .le64 _ => .base64
  | .be16 _ => .base32
  | .be32 _ => .base32
  | .be64 _ => .base64
  | .bswap16 _ => .base32
  | .bswap32 _ => .base32
  | .bswap64 _ => .base64
  | .ja _ => .base32
  | .ja32 _ => .base32
  | .jeq64K _ _ _ => .base64
  | .jeq64X _ _ _ => .base64
  | .jgt64K _ _ _ => .base64
  | .jgt64X _ _ _ => .base64
  | .jge64K _ _ _ => .base64
  | .jge64X _ _ _ => .base64
  | .jset64K _ _ _ => .base64
  | .jset64X _ _ _ => .base64
  | .jne64K _ _ _ => .base64
  | .jne64X _ _ _ => .base64
  | .jsgt64K _ _ _ => .base64
  | .jsgt64X _ _ _ => .base64
  | .jsge64K _ _ _ => .base64
  | .jsge64X _ _ _ => .base64
  | .jlt64K _ _ _ => .base64
  | .jlt64X _ _ _ => .base64
  | .jle64K _ _ _ => .base64
  | .jle64X _ _ _ => .base64
  | .jslt64K _ _ _ => .base64
  | .jslt64X _ _ _ => .base64
  | .jsle64K _ _ _ => .base64
  | .jsle64X _ _ _ => .base64
  | .jeq32K _ _ _ => .base32
  | .jeq32X _ _ _ => .base32
  | .jgt32K _ _ _ => .base32
  | .jgt32X _ _ _ => .base32
  | .jge32K _ _ _ => .base32
  | .jge32X _ _ _ => .base32
  | .jset32K _ _ _ => .base32
  | .jset32X _ _ _ => .base32
  | .jne32K _ _ _ => .base32
  | .jne32X _ _ _ => .base32
  | .jsgt32K _ _ _ => .base32
  | .jsgt32X _ _ _ => .base32
  | .jsge32K _ _ _ => .base32
  | .jsge32X _ _ _ => .base32
  | .jlt32K _ _ _ => .base32
  | .jlt32X _ _ _ => .base32
  | .jle32K _ _ _ => .base32
  | .jle32X _ _ _ => .base32
  | .jslt32K _ _ _ => .base32
  | .jslt32X _ _ _ => .base32
  | .jsle32K _ _ _ => .base32
  | .jsle32X _ _ _ => .base32
  | .callHelper _ => .base32
  | .callLocal _ => .base32
  | .callBtf _ => .base32
  | .exit => .base32
  | .ldxw _ _ _ => .base32
  | .ldxh _ _ _ => .base32
  | .ldxb _ _ _ => .base32
  | .ldxdw _ _ _ => .base64
  | .stw _ _ _ => .base32
  | .sth _ _ _ => .base32
  | .stb _ _ _ => .base32
  | .stdw _ _ _ => .base64
  | .stxw _ _ _ => .base32
  | .stxh _ _ _ => .base32
  | .stxb _ _ _ => .base32
  | .stxdw _ _ _ => .base64
  | .ldxsw _ _ _ => .base32
  | .ldxsh _ _ _ => .base32
  | .ldxsb _ _ _ => .base32
  | .atomicAdd32 _ _ _ => .atomic32
  | .atomicFetchAdd32 _ _ _ => .atomic32
  | .atomicOr32 _ _ _ => .atomic32
  | .atomicFetchOr32 _ _ _ => .atomic32
  | .atomicAnd32 _ _ _ => .atomic32
  | .atomicFetchAnd32 _ _ _ => .atomic32
  | .atomicXor32 _ _ _ => .atomic32
  | .atomicFetchXor32 _ _ _ => .atomic32
  | .xchg32 _ _ _ => .atomic32
  | .cmpxchg32 _ _ _ => .atomic32
  | .atomicAdd64 _ _ _ => .atomic64
  | .atomicFetchAdd64 _ _ _ => .atomic64
  | .atomicOr64 _ _ _ => .atomic64
  | .atomicFetchOr64 _ _ _ => .atomic64
  | .atomicAnd64 _ _ _ => .atomic64
  | .atomicFetchAnd64 _ _ _ => .atomic64
  | .atomicXor64 _ _ _ => .atomic64
  | .atomicFetchXor64 _ _ _ => .atomic64
  | .xchg64 _ _ _ => .atomic64
  | .cmpxchg64 _ _ _ => .atomic64
  | .lddwImm _ _ _ => .base64
  | .lddwMapFd _ _ => .base64
  | .lddwMapFdVal _ _ _ => .base64
  | .lddwVar _ _ => .base64
  | .lddwCode _ _ => .base64
  | .lddwMapIdx _ _ => .base64
  | .lddwMapIdxVal _ _ _ => .base64
  | .ldabsw _ => .packet
  | .ldabsh _ => .packet
  | .ldabsb _ => .packet
  | .ldindw _ _ => .packet
  | .ldindh _ _ => .packet
  | .ldindb _ _ => .packet
  | .imm64SecondSlot _ => .base64

/-- The groups a group includes besides itself (R3). -/
def Group.included : Group → List Group
  | .base64 => [.base32]
  | .atomic64 => [.atomic32]
  | .divmul64 => [.divmul32]
  | .base32 | .atomic32 | .divmul32 | .packet => []

/-- A group is supported when it is `base32` (R2: an implementation MUST support it), is named, or is included
in a group that is named (R3, R93). -/
def supports (gs : List Group) (g : Group) : Bool :=
  g == .base32 || gs.any fun h => g == h || h.included.any (· == g)

/-! ## The decoder -/

/-- Steps 2 to 5 of R85: the row, the register fields, the second slot. -/
def decodeWord (w : InsnWord) (next : Option InsnWord) : Except Reject Instr :=
  match opcodeTable.lookup (fieldsOf w).opcode.toNat with
  | some arm => arm (fieldsOf w) next
  | none => .error .reservedOpcode

/-- Decoding (R85), total: from the slot at which execution starts and the slot after it (`none` where the
program ends) to an instruction, or a named rejection. -/
def decode (e : Endian) (gs : List Group) (slot : Slot) (next : Option Slot) : Except Reject Instr :=
  match decodeWord (wordOfSlot e slot) (next.map (wordOfSlot e)) with
  | .ok i => if supports gs i.group then .ok i else .error .unsupportedGroup
  | .error r => .error r

/-- Length in slots, from the opcode byte alone (R86). -/
def slotCount (w : InsnWord) : Nat :=
  if (fieldsOf w).opcode == 0x18 then 2 else 1

/-- Take one slot off a list of bytes, byte 0 first (R71). -/
def takeSlot : List Byte → Option (Slot × List Byte)
  | b0 :: b1 :: b2 :: b3 :: b4 :: b5 :: b6 :: b7 :: rest => some (slotOfBytes b0 b1 b2 b3 b4 b5 b6 b7, rest)
  | _ => none

/-- Decoding of a list of bytes: the instruction at its head and the bytes after it. -/
def decodeBytes (e : Endian) (gs : List Group) (bs : List Byte) : Except Reject (Instr × List Byte) :=
  match takeSlot bs with
  | none => .error .noSlot
  | some (slot, rest) =>
    let second := takeSlot rest
    match decode e gs slot (second.map Prod.fst) with
    | .error r => .error r
    | .ok i =>
      if slotCount (wordOfSlot e slot) = 2 then .ok (i, (second.map Prod.snd).getD []) else .ok (i, rest)

/-! ## The encoder -/

/-- No register named: `dst_reg` unused, `src_reg` zero or a selector. -/
def encNone (op : Byte) (src : BitVec 4) (off : Off) (imm : Imm) : Fields := ⟨op, 0, src, off, imm⟩

/-- `dst_reg` a register, `src_reg` zero or a selector. -/
def encDst (op : Byte) (src : BitVec 4) (d : RegIdx) (off : Off) (imm : Imm) : Fields :=
  ⟨op, fieldOfReg d, src, off, imm⟩

/-- ALU and ALU64 with an immediate: `offset` is the selector. -/
def encK (op : Byte) (off : Off) (d : RegIdx) (imm : Imm) : Fields := ⟨op, fieldOfReg d, 0, off, imm⟩

/-- ALU and ALU64 with a register: `offset` is the selector. -/
def encX (op : Byte) (off : Off) (d s : RegIdx) : Fields := ⟨op, fieldOfReg d, fieldOfReg s, off, 0⟩

/-- Two registers, `offset` and `imm`. -/
def encBoth (op : Byte) (d s : RegIdx) (off : Off) (imm : Imm) : Fields :=
  ⟨op, fieldOfReg d, fieldOfReg s, off, imm⟩

/-- `src_reg` a register, `dst_reg` unused. -/
def encSrc (op : Byte) (s : RegIdx) (imm : Imm) : Fields := ⟨op, 0, fieldOfReg s, 0, imm⟩

/-- The fields of an instruction's first slot (R84, `opcode_table.json`). -/
def encodeFields : Instr → Fields
  | .add32K d imm => encK 0x04 0 d imm
  | .add32X d s => encX 0x0c 0 d s
  | .sub32K d imm => encK 0x14 0 d imm
  | .sub32X d s => encX 0x1c 0 d s
  | .mul32K d imm => encK 0x24 0 d imm
  | .mul32X d s => encX 0x2c 0 d s
  | .div32K d imm => encK 0x34 0 d imm
  | .div32X d s => encX 0x3c 0 d s
  | .sdiv32K d imm => encK 0x34 1 d imm
  | .sdiv32X d s => encX 0x3c 1 d s
  | .or32K d imm => encK 0x44 0 d imm
  | .or32X d s => encX 0x4c 0 d s
  | .and32K d imm => encK 0x54 0 d imm
  | .and32X d s => encX 0x5c 0 d s
  | .lsh32K d imm => encK 0x64 0 d imm
  | .lsh32X d s => encX 0x6c 0 d s
  | .rsh32K d imm => encK 0x74 0 d imm
  | .rsh32X d s => encX 0x7c 0 d s
  | .neg32 d => encK 0x84 0 d 0
  | .mod32K d imm => encK 0x94 0 d imm
  | .mod32X d s => encX 0x9c 0 d s
  | .smod32K d imm => encK 0x94 1 d imm
  | .smod32X d s => encX 0x9c 1 d s
  | .xor32K d imm => encK 0xa4 0 d imm
  | .xor32X d s => encX 0xac 0 d s
  | .mov32K d imm => encK 0xb4 0 d imm
  | .mov32X d s => encX 0xbc 0 d s
  | .movsx32_8 d s => encX 0xbc 8 d s
  | .movsx32_16 d s => encX 0xbc 16 d s
  | .arsh32K d imm => encK 0xc4 0 d imm
  | .arsh32X d s => encX 0xcc 0 d s
  | .add64K d imm => encK 0x07 0 d imm
  | .add64X d s => encX 0x0f 0 d s
  | .sub64K d imm => encK 0x17 0 d imm
  | .sub64X d s => encX 0x1f 0 d s
  | .mul64K d imm => encK 0x27 0 d imm
  | .mul64X d s => encX 0x2f 0 d s
  | .div64K d imm => encK 0x37 0 d imm
  | .div64X d s => encX 0x3f 0 d s
  | .sdiv64K d imm => encK 0x37 1 d imm
  | .sdiv64X d s => encX 0x3f 1 d s
  | .or64K d imm => encK 0x47 0 d imm
  | .or64X d s => encX 0x4f 0 d s
  | .and64K d imm => encK 0x57 0 d imm
  | .and64X d s => encX 0x5f 0 d s
  | .lsh64K d imm => encK 0x67 0 d imm
  | .lsh64X d s => encX 0x6f 0 d s
  | .rsh64K d imm => encK 0x77 0 d imm
  | .rsh64X d s => encX 0x7f 0 d s
  | .neg64 d => encK 0x87 0 d 0
  | .mod64K d imm => encK 0x97 0 d imm
  | .mod64X d s => encX 0x9f 0 d s
  | .smod64K d imm => encK 0x97 1 d imm
  | .smod64X d s => encX 0x9f 1 d s
  | .xor64K d imm => encK 0xa7 0 d imm
  | .xor64X d s => encX 0xaf 0 d s
  | .mov64K d imm => encK 0xb7 0 d imm
  | .mov64X d s => encX 0xbf 0 d s
  | .movsx64_8 d s => encX 0xbf 8 d s
  | .movsx64_16 d s => encX 0xbf 16 d s
  | .movsx64_32 d s => encX 0xbf 32 d s
  | .arsh64K d imm => encK 0xc7 0 d imm
  | .arsh64X d s => encX 0xcf 0 d s
  | .le16 d => encK 0xd4 0 d 16
  | .le32 d => encK 0xd4 0 d 32
  | .le64 d => encK 0xd4 0 d 64
  | .be16 d => encK 0xdc 0 d 16
  | .be32 d => encK 0xdc 0 d 32
  | .be64 d => encK 0xdc 0 d 64
  | .bswap16 d => encK 0xd7 0 d 16
  | .bswap32 d => encK 0xd7 0 d 32
  | .bswap64 d => encK 0xd7 0 d 64
  | .ja off => encNone 0x05 0 off 0
  | .ja32 imm => encNone 0x06 0 0 imm
  | .jeq64K d off imm => encDst 0x15 0 d off imm
  | .jeq64X d s off => encBoth 0x1d d s off 0
  | .jgt64K d off imm => encDst 0x25 0 d off imm
  | .jgt64X d s off => encBoth 0x2d d s off 0
  | .jge64K d off imm => encDst 0x35 0 d off imm
  | .jge64X d s off => encBoth 0x3d d s off 0
  | .jset64K d off imm => encDst 0x45 0 d off imm
  | .jset64X d s off => encBoth 0x4d d s off 0
  | .jne64K d off imm => encDst 0x55 0 d off imm
  | .jne64X d s off => encBoth 0x5d d s off 0
  | .jsgt64K d off imm => encDst 0x65 0 d off imm
  | .jsgt64X d s off => encBoth 0x6d d s off 0
  | .jsge64K d off imm => encDst 0x75 0 d off imm
  | .jsge64X d s off => encBoth 0x7d d s off 0
  | .jlt64K d off imm => encDst 0xa5 0 d off imm
  | .jlt64X d s off => encBoth 0xad d s off 0
  | .jle64K d off imm => encDst 0xb5 0 d off imm
  | .jle64X d s off => encBoth 0xbd d s off 0
  | .jslt64K d off imm => encDst 0xc5 0 d off imm
  | .jslt64X d s off => encBoth 0xcd d s off 0
  | .jsle64K d off imm => encDst 0xd5 0 d off imm
  | .jsle64X d s off => encBoth 0xdd d s off 0
  | .jeq32K d off imm => encDst 0x16 0 d off imm
  | .jeq32X d s off => encBoth 0x1e d s off 0
  | .jgt32K d off imm => encDst 0x26 0 d off imm
  | .jgt32X d s off => encBoth 0x2e d s off 0
  | .jge32K d off imm => encDst 0x36 0 d off imm
  | .jge32X d s off => encBoth 0x3e d s off 0
  | .jset32K d off imm => encDst 0x46 0 d off imm
  | .jset32X d s off => encBoth 0x4e d s off 0
  | .jne32K d off imm => encDst 0x56 0 d off imm
  | .jne32X d s off => encBoth 0x5e d s off 0
  | .jsgt32K d off imm => encDst 0x66 0 d off imm
  | .jsgt32X d s off => encBoth 0x6e d s off 0
  | .jsge32K d off imm => encDst 0x76 0 d off imm
  | .jsge32X d s off => encBoth 0x7e d s off 0
  | .jlt32K d off imm => encDst 0xa6 0 d off imm
  | .jlt32X d s off => encBoth 0xae d s off 0
  | .jle32K d off imm => encDst 0xb6 0 d off imm
  | .jle32X d s off => encBoth 0xbe d s off 0
  | .jslt32K d off imm => encDst 0xc6 0 d off imm
  | .jslt32X d s off => encBoth 0xce d s off 0
  | .jsle32K d off imm => encDst 0xd6 0 d off imm
  | .jsle32X d s off => encBoth 0xde d s off 0
  | .callHelper imm => encNone 0x85 0 0 imm
  | .callLocal imm => encNone 0x85 1 0 imm
  | .callBtf imm => encNone 0x85 2 0 imm
  | .exit => encNone 0x95 0 0 0
  | .ldxw d s off => encBoth 0x61 d s off 0
  | .ldxh d s off => encBoth 0x69 d s off 0
  | .ldxb d s off => encBoth 0x71 d s off 0
  | .ldxdw d s off => encBoth 0x79 d s off 0
  | .stw d off imm => encDst 0x62 0 d off imm
  | .sth d off imm => encDst 0x6a 0 d off imm
  | .stb d off imm => encDst 0x72 0 d off imm
  | .stdw d off imm => encDst 0x7a 0 d off imm
  | .stxw d s off => encBoth 0x63 d s off 0
  | .stxh d s off => encBoth 0x6b d s off 0
  | .stxb d s off => encBoth 0x73 d s off 0
  | .stxdw d s off => encBoth 0x7b d s off 0
  | .ldxsw d s off => encBoth 0x81 d s off 0
  | .ldxsh d s off => encBoth 0x89 d s off 0
  | .ldxsb d s off => encBoth 0x91 d s off 0
  | .atomicAdd32 d s off => encBoth 0xc3 d s off 0x00
  | .atomicFetchAdd32 d s off => encBoth 0xc3 d s off 0x01
  | .atomicOr32 d s off => encBoth 0xc3 d s off 0x40
  | .atomicFetchOr32 d s off => encBoth 0xc3 d s off 0x41
  | .atomicAnd32 d s off => encBoth 0xc3 d s off 0x50
  | .atomicFetchAnd32 d s off => encBoth 0xc3 d s off 0x51
  | .atomicXor32 d s off => encBoth 0xc3 d s off 0xa0
  | .atomicFetchXor32 d s off => encBoth 0xc3 d s off 0xa1
  | .xchg32 d s off => encBoth 0xc3 d s off 0xe1
  | .cmpxchg32 d s off => encBoth 0xc3 d s off 0xf1
  | .atomicAdd64 d s off => encBoth 0xdb d s off 0x00
  | .atomicFetchAdd64 d s off => encBoth 0xdb d s off 0x01
  | .atomicOr64 d s off => encBoth 0xdb d s off 0x40
  | .atomicFetchOr64 d s off => encBoth 0xdb d s off 0x41
  | .atomicAnd64 d s off => encBoth 0xdb d s off 0x50
  | .atomicFetchAnd64 d s off => encBoth 0xdb d s off 0x51
  | .atomicXor64 d s off => encBoth 0xdb d s off 0xa0
  | .atomicFetchXor64 d s off => encBoth 0xdb d s off 0xa1
  | .xchg64 d s off => encBoth 0xdb d s off 0xe1
  | .cmpxchg64 d s off => encBoth 0xdb d s off 0xf1
  | .lddwImm d imm _ => encDst 0x18 0 d 0 imm
  | .lddwMapFd d imm => encDst 0x18 1 d 0 imm
  | .lddwMapFdVal d imm _ => encDst 0x18 2 d 0 imm
  | .lddwVar d imm => encDst 0x18 3 d 0 imm
  | .lddwCode d imm => encDst 0x18 4 d 0 imm
  | .lddwMapIdx d imm => encDst 0x18 5 d 0 imm
  | .lddwMapIdxVal d imm _ => encDst 0x18 6 d 0 imm
  | .ldabsw imm => encNone 0x20 0 0 imm
  | .ldabsh imm => encNone 0x28 0 0 imm
  | .ldabsb imm => encNone 0x30 0 0 imm
  | .ldindw s imm => encSrc 0x40 s imm
  | .ldindh s imm => encSrc 0x48 s imm
  | .ldindb s imm => encSrc 0x50 s imm
  | .imm64SecondSlot nextImm => encNone 0x00 0 0 nextImm

/-- `next_imm` of a wide instruction, zero where its subtype does not use it; `none` for a basic
instruction (R77, R87). -/
def encodeNext : Instr → Option Imm
  | .add32K _ _ => none
  | .add32X _ _ => none
  | .sub32K _ _ => none
  | .sub32X _ _ => none
  | .mul32K _ _ => none
  | .mul32X _ _ => none
  | .div32K _ _ => none
  | .div32X _ _ => none
  | .sdiv32K _ _ => none
  | .sdiv32X _ _ => none
  | .or32K _ _ => none
  | .or32X _ _ => none
  | .and32K _ _ => none
  | .and32X _ _ => none
  | .lsh32K _ _ => none
  | .lsh32X _ _ => none
  | .rsh32K _ _ => none
  | .rsh32X _ _ => none
  | .neg32 _ => none
  | .mod32K _ _ => none
  | .mod32X _ _ => none
  | .smod32K _ _ => none
  | .smod32X _ _ => none
  | .xor32K _ _ => none
  | .xor32X _ _ => none
  | .mov32K _ _ => none
  | .mov32X _ _ => none
  | .movsx32_8 _ _ => none
  | .movsx32_16 _ _ => none
  | .arsh32K _ _ => none
  | .arsh32X _ _ => none
  | .add64K _ _ => none
  | .add64X _ _ => none
  | .sub64K _ _ => none
  | .sub64X _ _ => none
  | .mul64K _ _ => none
  | .mul64X _ _ => none
  | .div64K _ _ => none
  | .div64X _ _ => none
  | .sdiv64K _ _ => none
  | .sdiv64X _ _ => none
  | .or64K _ _ => none
  | .or64X _ _ => none
  | .and64K _ _ => none
  | .and64X _ _ => none
  | .lsh64K _ _ => none
  | .lsh64X _ _ => none
  | .rsh64K _ _ => none
  | .rsh64X _ _ => none
  | .neg64 _ => none
  | .mod64K _ _ => none
  | .mod64X _ _ => none
  | .smod64K _ _ => none
  | .smod64X _ _ => none
  | .xor64K _ _ => none
  | .xor64X _ _ => none
  | .mov64K _ _ => none
  | .mov64X _ _ => none
  | .movsx64_8 _ _ => none
  | .movsx64_16 _ _ => none
  | .movsx64_32 _ _ => none
  | .arsh64K _ _ => none
  | .arsh64X _ _ => none
  | .le16 _ => none
  | .le32 _ => none
  | .le64 _ => none
  | .be16 _ => none
  | .be32 _ => none
  | .be64 _ => none
  | .bswap16 _ => none
  | .bswap32 _ => none
  | .bswap64 _ => none
  | .ja _ => none
  | .ja32 _ => none
  | .jeq64K _ _ _ => none
  | .jeq64X _ _ _ => none
  | .jgt64K _ _ _ => none
  | .jgt64X _ _ _ => none
  | .jge64K _ _ _ => none
  | .jge64X _ _ _ => none
  | .jset64K _ _ _ => none
  | .jset64X _ _ _ => none
  | .jne64K _ _ _ => none
  | .jne64X _ _ _ => none
  | .jsgt64K _ _ _ => none
  | .jsgt64X _ _ _ => none
  | .jsge64K _ _ _ => none
  | .jsge64X _ _ _ => none
  | .jlt64K _ _ _ => none
  | .jlt64X _ _ _ => none
  | .jle64K _ _ _ => none
  | .jle64X _ _ _ => none
  | .jslt64K _ _ _ => none
  | .jslt64X _ _ _ => none
  | .jsle64K _ _ _ => none
  | .jsle64X _ _ _ => none
  | .jeq32K _ _ _ => none
  | .jeq32X _ _ _ => none
  | .jgt32K _ _ _ => none
  | .jgt32X _ _ _ => none
  | .jge32K _ _ _ => none
  | .jge32X _ _ _ => none
  | .jset32K _ _ _ => none
  | .jset32X _ _ _ => none
  | .jne32K _ _ _ => none
  | .jne32X _ _ _ => none
  | .jsgt32K _ _ _ => none
  | .jsgt32X _ _ _ => none
  | .jsge32K _ _ _ => none
  | .jsge32X _ _ _ => none
  | .jlt32K _ _ _ => none
  | .jlt32X _ _ _ => none
  | .jle32K _ _ _ => none
  | .jle32X _ _ _ => none
  | .jslt32K _ _ _ => none
  | .jslt32X _ _ _ => none
  | .jsle32K _ _ _ => none
  | .jsle32X _ _ _ => none
  | .callHelper _ => none
  | .callLocal _ => none
  | .callBtf _ => none
  | .exit => none
  | .ldxw _ _ _ => none
  | .ldxh _ _ _ => none
  | .ldxb _ _ _ => none
  | .ldxdw _ _ _ => none
  | .stw _ _ _ => none
  | .sth _ _ _ => none
  | .stb _ _ _ => none
  | .stdw _ _ _ => none
  | .stxw _ _ _ => none
  | .stxh _ _ _ => none
  | .stxb _ _ _ => none
  | .stxdw _ _ _ => none
  | .ldxsw _ _ _ => none
  | .ldxsh _ _ _ => none
  | .ldxsb _ _ _ => none
  | .atomicAdd32 _ _ _ => none
  | .atomicFetchAdd32 _ _ _ => none
  | .atomicOr32 _ _ _ => none
  | .atomicFetchOr32 _ _ _ => none
  | .atomicAnd32 _ _ _ => none
  | .atomicFetchAnd32 _ _ _ => none
  | .atomicXor32 _ _ _ => none
  | .atomicFetchXor32 _ _ _ => none
  | .xchg32 _ _ _ => none
  | .cmpxchg32 _ _ _ => none
  | .atomicAdd64 _ _ _ => none
  | .atomicFetchAdd64 _ _ _ => none
  | .atomicOr64 _ _ _ => none
  | .atomicFetchOr64 _ _ _ => none
  | .atomicAnd64 _ _ _ => none
  | .atomicFetchAnd64 _ _ _ => none
  | .atomicXor64 _ _ _ => none
  | .atomicFetchXor64 _ _ _ => none
  | .xchg64 _ _ _ => none
  | .cmpxchg64 _ _ _ => none
  | .lddwImm _ _ nextImm => some nextImm
  | .lddwMapFd _ _ => some 0
  | .lddwMapFdVal _ _ nextImm => some nextImm
  | .lddwVar _ _ => some 0
  | .lddwCode _ _ => some 0
  | .lddwMapIdx _ _ => some 0
  | .lddwMapIdxVal _ _ nextImm => some nextImm
  | .ldabsw _ => none
  | .ldabsh _ => none
  | .ldabsb _ => none
  | .ldindw _ _ => none
  | .ldindh _ _ => none
  | .ldindb _ _ => none
  | .imm64SecondSlot _ => none

/-- The canonical word of a second slot: low 32 bits zero, `next_imm` above them (R77). -/
def secondWord (n : Imm) : InsnWord := n.setWidth 64 <<< 32

/-- The canonical words of an instruction (R76, R77): one, or two for a wide instruction. -/
def encodeWords (i : Instr) : List InsnWord :=
  match encodeNext i with
  | none => [wordOf (encodeFields i)]
  | some n => [wordOf (encodeFields i), secondWord n]

/-- The slots of an instruction in program memory (R59). -/
def encode (e : Endian) (i : Instr) : List Slot :=
  (encodeWords i).map (slotOfWord e)

/-- The eight bytes of a slot, byte 0 first. -/
def slotBytes (s : Slot) : List Byte :=
  [slotByte s 0, slotByte s 1, slotByte s 2, slotByte s 3, slotByte s 4, slotByte s 5, slotByte s 6, slotByte s 7]

/-- The bytes of an instruction in program memory (R71, R77). -/
def encodeBytes (e : Endian) (i : Instr) : List Byte :=
  (encode e i).flatMap slotBytes

/-! ## The host's question -/

/-- All seven groups. -/
def allGroups : List Group := [.base32, .base64, .atomic32, .atomic64, .divmul32, .divmul64, .packet]

/-- The two canonical words at the bottom of an instruction given as one number of `nbits` bits: its first slot
is bits 63:0, its second 127:64, and the bits above `nbits` are zero. -/
def tableWords (nbits w : Nat) : InsnWord × InsnWord :=
  let v := w % 2 ^ nbits
  (BitVec.ofNat 64 v, BitVec.ofNat 64 (v / 2 ^ 64))

/-- What the decoder reads from an instruction whose canonical words are the bits of `w`, numbered as
`opcode_table.json` numbers them. Every group counts as supported here, `packet` too: the question is about the
encoding, not about one implementation's `GROUPS` (notes/assumptions/19.md). -/
def decodeTableWord (nbits w : Nat) : Option Instr :=
  let ws := tableWords nbits w
  match decode .little allGroups (slotOfWord .little ws.1) (some (slotOfWord .little ws.2)) with
  | .ok i => some i
  | .error _ => none

end Sys2Proof
end

