-- ==== Sys2Proof/Machine/Packet.lean ====
section
/-! DEFINITION. The legacy packet instructions (spec/48_packet.md): encodings only. Where `packet` is not in
`GROUPS` they raise `IllegalInstruction`; where it is, the spec gives them no semantics and forbids guessing
one (R361), so the model refuses them by name. -/
namespace Sys2Proof.Machine

/-- R361: `raise IllegalInstruction(pc)` without the group; otherwise not specified. -/
def packetAccess (mnemonic : String) (s : State) : Result :=
  if supports s.plat.groups .packet then .refused (.packetSemantics mnemonic)
  else .next (raise (.illegalInstruction s.pc) s)

/-- `LDABSW` {ABS, W, LD} (R362). -/
def execLdabsw (_imm : Imm) (s : State) : Result :=
  packetAccess "LDABSW" s

/-- `LDABSH` {ABS, H, LD} (R363). -/
def execLdabsh (_imm : Imm) (s : State) : Result :=
  packetAccess "LDABSH" s

/-- `LDABSB` {ABS, B, LD} (R364). -/
def execLdabsb (_imm : Imm) (s : State) : Result :=
  packetAccess "LDABSB" s

/-- `LDINDW` {IND, W, LD} (R365). -/
def execLdindw (_r : RegIdx) (_imm : Imm) (s : State) : Result :=
  packetAccess "LDINDW" s

/-- `LDINDH` {IND, H, LD} (R366). -/
def execLdindh (_r : RegIdx) (_imm : Imm) (s : State) : Result :=
  packetAccess "LDINDH" s

/-- `LDINDB` {IND, B, LD} (R367). -/
def execLdindb (_r : RegIdx) (_imm : Imm) (s : State) : Result :=
  packetAccess "LDINDB" s

end Sys2Proof.Machine
end

