-- ==== Sys2Proof/Machine/Dispatch.lean ====
section
/-! DEFINITION. The dispatch: one arm per constructor of Instr, each one call of that instruction's meaning. -/
namespace Sys2Proof.Machine

def exec (i : Instr) (s : State) : Host.Outcome State Fault Refusal :=
  match i with
  -- spec/40_arithmetic_alu32.md
  | .add32K d imm => Sys2Proof.Machine.execAdd32K d imm s
  | .add32X d r => Sys2Proof.Machine.execAdd32X d r s
  | .sub32K d imm => Sys2Proof.Machine.execSub32K d imm s
  | .sub32X d r => Sys2Proof.Machine.execSub32X d r s
  | .mul32K d imm => Sys2Proof.Machine.execMul32K d imm s
  | .mul32X d r => Sys2Proof.Machine.execMul32X d r s
  | .div32K d imm => Sys2Proof.Machine.execDiv32K d imm s
  | .div32X d r => Sys2Proof.Machine.execDiv32X d r s
  | .sdiv32K d imm => Sys2Proof.Machine.execSdiv32K d imm s
  | .sdiv32X d r => Sys2Proof.Machine.execSdiv32X d r s
  | .or32K d imm => Sys2Proof.Machine.execOr32K d imm s
  | .or32X d r => Sys2Proof.Machine.execOr32X d r s
  | .and32K d imm => Sys2Proof.Machine.execAnd32K d imm s
  | .and32X d r => Sys2Proof.Machine.execAnd32X d r s
  | .lsh32K d imm => Sys2Proof.Machine.execLsh32K d imm s
  | .lsh32X d r => Sys2Proof.Machine.execLsh32X d r s
  | .rsh32K d imm => Sys2Proof.Machine.execRsh32K d imm s
  | .rsh32X d r => Sys2Proof.Machine.execRsh32X d r s
  | .neg32 d => Sys2Proof.Machine.execNeg32 d s
  | .mod32K d imm => Sys2Proof.Machine.execMod32K d imm s
  | .mod32X d r => Sys2Proof.Machine.execMod32X d r s
  | .smod32K d imm => Sys2Proof.Machine.execSmod32K d imm s
  | .smod32X d r => Sys2Proof.Machine.execSmod32X d r s
  | .xor32K d imm => Sys2Proof.Machine.execXor32K d imm s
  | .xor32X d r => Sys2Proof.Machine.execXor32X d r s
  | .mov32K d imm => Sys2Proof.Machine.execMov32K d imm s
  | .mov32X d r => Sys2Proof.Machine.execMov32X d r s
  | .movsx32_8 d r => Sys2Proof.Machine.execMovsx32_8 d r s
  | .movsx32_16 d r => Sys2Proof.Machine.execMovsx32_16 d r s
  | .arsh32K d imm => Sys2Proof.Machine.execArsh32K d imm s
  | .arsh32X d r => Sys2Proof.Machine.execArsh32X d r s
  -- spec/41_arithmetic_alu64.md
  | .add64K d imm => Sys2Proof.Machine.execAdd64K d imm s
  | .add64X d r => Sys2Proof.Machine.execAdd64X d r s
  | .sub64K d imm => Sys2Proof.Machine.execSub64K d imm s
  | .sub64X d r => Sys2Proof.Machine.execSub64X d r s
  | .mul64K d imm => Sys2Proof.Machine.execMul64K d imm s
  | .mul64X d r => Sys2Proof.Machine.execMul64X d r s
  | .div64K d imm => Sys2Proof.Machine.execDiv64K d imm s
  | .div64X d r => Sys2Proof.Machine.execDiv64X d r s
  | .sdiv64K d imm => Sys2Proof.Machine.execSdiv64K d imm s
  | .sdiv64X d r => Sys2Proof.Machine.execSdiv64X d r s
  | .or64K d imm => Sys2Proof.Machine.execOr64K d imm s
  | .or64X d r => Sys2Proof.Machine.execOr64X d r s
  | .and64K d imm => Sys2Proof.Machine.execAnd64K d imm s
  | .and64X d r => Sys2Proof.Machine.execAnd64X d r s
  | .lsh64K d imm => Sys2Proof.Machine.execLsh64K d imm s
  | .lsh64X d r => Sys2Proof.Machine.execLsh64X d r s
  | .rsh64K d imm => Sys2Proof.Machine.execRsh64K d imm s
  | .rsh64X d r => Sys2Proof.Machine.execRsh64X d r s
  | .neg64 d => Sys2Proof.Machine.execNeg64 d s
  | .mod64K d imm => Sys2Proof.Machine.execMod64K d imm s
  | .mod64X d r => Sys2Proof.Machine.execMod64X d r s
  | .smod64K d imm => Sys2Proof.Machine.execSmod64K d imm s
  | .smod64X d r => Sys2Proof.Machine.execSmod64X d r s
  | .xor64K d imm => Sys2Proof.Machine.execXor64K d imm s
  | .xor64X d r => Sys2Proof.Machine.execXor64X d r s
  | .mov64K d imm => Sys2Proof.Machine.execMov64K d imm s
  | .mov64X d r => Sys2Proof.Machine.execMov64X d r s
  | .movsx64_8 d r => Sys2Proof.Machine.execMovsx64_8 d r s
  | .movsx64_16 d r => Sys2Proof.Machine.execMovsx64_16 d r s
  | .movsx64_32 d r => Sys2Proof.Machine.execMovsx64_32 d r s
  | .arsh64K d imm => Sys2Proof.Machine.execArsh64K d imm s
  | .arsh64X d r => Sys2Proof.Machine.execArsh64X d r s
  -- spec/42_byteswap.md
  | .le16 d => Sys2Proof.Machine.execLe16 d s
  | .le32 d => Sys2Proof.Machine.execLe32 d s
  | .le64 d => Sys2Proof.Machine.execLe64 d s
  | .be16 d => Sys2Proof.Machine.execBe16 d s
  | .be32 d => Sys2Proof.Machine.execBe32 d s
  | .be64 d => Sys2Proof.Machine.execBe64 d s
  | .bswap16 d => Sys2Proof.Machine.execBswap16 d s
  | .bswap32 d => Sys2Proof.Machine.execBswap32 d s
  | .bswap64 d => Sys2Proof.Machine.execBswap64 d s
  -- spec/43_jump.md
  | .ja off => Sys2Proof.Machine.execJa off s
  | .ja32 imm => Sys2Proof.Machine.execJa32 imm s
  | .jeq64K d off imm => Sys2Proof.Machine.execJeq64K d off imm s
  | .jeq64X d r off => Sys2Proof.Machine.execJeq64X d r off s
  | .jgt64K d off imm => Sys2Proof.Machine.execJgt64K d off imm s
  | .jgt64X d r off => Sys2Proof.Machine.execJgt64X d r off s
  | .jge64K d off imm => Sys2Proof.Machine.execJge64K d off imm s
  | .jge64X d r off => Sys2Proof.Machine.execJge64X d r off s
  | .jset64K d off imm => Sys2Proof.Machine.execJset64K d off imm s
  | .jset64X d r off => Sys2Proof.Machine.execJset64X d r off s
  | .jne64K d off imm => Sys2Proof.Machine.execJne64K d off imm s
  | .jne64X d r off => Sys2Proof.Machine.execJne64X d r off s
  | .jsgt64K d off imm => Sys2Proof.Machine.execJsgt64K d off imm s
  | .jsgt64X d r off => Sys2Proof.Machine.execJsgt64X d r off s
  | .jsge64K d off imm => Sys2Proof.Machine.execJsge64K d off imm s
  | .jsge64X d r off => Sys2Proof.Machine.execJsge64X d r off s
  | .jlt64K d off imm => Sys2Proof.Machine.execJlt64K d off imm s
  | .jlt64X d r off => Sys2Proof.Machine.execJlt64X d r off s
  | .jle64K d off imm => Sys2Proof.Machine.execJle64K d off imm s
  | .jle64X d r off => Sys2Proof.Machine.execJle64X d r off s
  | .jslt64K d off imm => Sys2Proof.Machine.execJslt64K d off imm s
  | .jslt64X d r off => Sys2Proof.Machine.execJslt64X d r off s
  | .jsle64K d off imm => Sys2Proof.Machine.execJsle64K d off imm s
  | .jsle64X d r off => Sys2Proof.Machine.execJsle64X d r off s
  | .jeq32K d off imm => Sys2Proof.Machine.execJeq32K d off imm s
  | .jeq32X d r off => Sys2Proof.Machine.execJeq32X d r off s
  | .jgt32K d off imm => Sys2Proof.Machine.execJgt32K d off imm s
  | .jgt32X d r off => Sys2Proof.Machine.execJgt32X d r off s
  | .jge32K d off imm => Sys2Proof.Machine.execJge32K d off imm s
  | .jge32X d r off => Sys2Proof.Machine.execJge32X d r off s
  | .jset32K d off imm => Sys2Proof.Machine.execJset32K d off imm s
  | .jset32X d r off => Sys2Proof.Machine.execJset32X d r off s
  | .jne32K d off imm => Sys2Proof.Machine.execJne32K d off imm s
  | .jne32X d r off => Sys2Proof.Machine.execJne32X d r off s
  | .jsgt32K d off imm => Sys2Proof.Machine.execJsgt32K d off imm s
  | .jsgt32X d r off => Sys2Proof.Machine.execJsgt32X d r off s
  | .jsge32K d off imm => Sys2Proof.Machine.execJsge32K d off imm s
  | .jsge32X d r off => Sys2Proof.Machine.execJsge32X d r off s
  | .jlt32K d off imm => Sys2Proof.Machine.execJlt32K d off imm s
  | .jlt32X d r off => Sys2Proof.Machine.execJlt32X d r off s
  | .jle32K d off imm => Sys2Proof.Machine.execJle32K d off imm s
  | .jle32X d r off => Sys2Proof.Machine.execJle32X d r off s
  | .jslt32K d off imm => Sys2Proof.Machine.execJslt32K d off imm s
  | .jslt32X d r off => Sys2Proof.Machine.execJslt32X d r off s
  | .jsle32K d off imm => Sys2Proof.Machine.execJsle32K d off imm s
  | .jsle32X d r off => Sys2Proof.Machine.execJsle32X d r off s
  -- spec/44_call_exit.md
  | .callHelper imm => Sys2Proof.Machine.execCallHelper imm s
  | .callLocal imm => Sys2Proof.Machine.execCallLocal imm s
  | .callBtf imm => Sys2Proof.Machine.execCallBtf imm s
  | .exit => Sys2Proof.Machine.execExit s
  -- spec/45_load_store.md
  | .ldxw d r off => Sys2Proof.Machine.execLdxw d r off s
  | .ldxh d r off => Sys2Proof.Machine.execLdxh d r off s
  | .ldxb d r off => Sys2Proof.Machine.execLdxb d r off s
  | .ldxdw d r off => Sys2Proof.Machine.execLdxdw d r off s
  | .stw d off imm => Sys2Proof.Machine.execStw d off imm s
  | .sth d off imm => Sys2Proof.Machine.execSth d off imm s
  | .stb d off imm => Sys2Proof.Machine.execStb d off imm s
  | .stdw d off imm => Sys2Proof.Machine.execStdw d off imm s
  | .stxw d r off => Sys2Proof.Machine.execStxw d r off s
  | .stxh d r off => Sys2Proof.Machine.execStxh d r off s
  | .stxb d r off => Sys2Proof.Machine.execStxb d r off s
  | .stxdw d r off => Sys2Proof.Machine.execStxdw d r off s
  | .ldxsw d r off => Sys2Proof.Machine.execLdxsw d r off s
  | .ldxsh d r off => Sys2Proof.Machine.execLdxsh d r off s
  | .ldxsb d r off => Sys2Proof.Machine.execLdxsb d r off s
  -- spec/46_atomic.md
  | .atomicAdd32 d r off => Sys2Proof.Machine.execAtomicAdd32 d r off s
  | .atomicFetchAdd32 d r off => Sys2Proof.Machine.execAtomicFetchAdd32 d r off s
  | .atomicOr32 d r off => Sys2Proof.Machine.execAtomicOr32 d r off s
  | .atomicFetchOr32 d r off => Sys2Proof.Machine.execAtomicFetchOr32 d r off s
  | .atomicAnd32 d r off => Sys2Proof.Machine.execAtomicAnd32 d r off s
  | .atomicFetchAnd32 d r off => Sys2Proof.Machine.execAtomicFetchAnd32 d r off s
  | .atomicXor32 d r off => Sys2Proof.Machine.execAtomicXor32 d r off s
  | .atomicFetchXor32 d r off => Sys2Proof.Machine.execAtomicFetchXor32 d r off s
  | .xchg32 d r off => Sys2Proof.Machine.execXchg32 d r off s
  | .cmpxchg32 d r off => Sys2Proof.Machine.execCmpxchg32 d r off s
  | .atomicAdd64 d r off => Sys2Proof.Machine.execAtomicAdd64 d r off s
  | .atomicFetchAdd64 d r off => Sys2Proof.Machine.execAtomicFetchAdd64 d r off s
  | .atomicOr64 d r off => Sys2Proof.Machine.execAtomicOr64 d r off s
  | .atomicFetchOr64 d r off => Sys2Proof.Machine.execAtomicFetchOr64 d r off s
  | .atomicAnd64 d r off => Sys2Proof.Machine.execAtomicAnd64 d r off s
  | .atomicFetchAnd64 d r off => Sys2Proof.Machine.execAtomicFetchAnd64 d r off s
  | .atomicXor64 d r off => Sys2Proof.Machine.execAtomicXor64 d r off s
  | .atomicFetchXor64 d r off => Sys2Proof.Machine.execAtomicFetchXor64 d r off s
  | .xchg64 d r off => Sys2Proof.Machine.execXchg64 d r off s
  | .cmpxchg64 d r off => Sys2Proof.Machine.execCmpxchg64 d r off s
  -- spec/47_imm64.md
  | .lddwImm d imm nextImm => Sys2Proof.Machine.execLddwImm d imm nextImm s
  | .lddwMapFd d imm => Sys2Proof.Machine.execLddwMapFd d imm s
  | .lddwMapFdVal d imm nextImm => Sys2Proof.Machine.execLddwMapFdVal d imm nextImm s
  | .lddwVar d imm => Sys2Proof.Machine.execLddwVar d imm s
  | .lddwCode d imm => Sys2Proof.Machine.execLddwCode d imm s
  | .lddwMapIdx d imm => Sys2Proof.Machine.execLddwMapIdx d imm s
  | .lddwMapIdxVal d imm nextImm => Sys2Proof.Machine.execLddwMapIdxVal d imm nextImm s
  -- spec/48_packet.md
  | .ldabsw imm => Sys2Proof.Machine.execLdabsw imm s
  | .ldabsh imm => Sys2Proof.Machine.execLdabsh imm s
  | .ldabsb imm => Sys2Proof.Machine.execLdabsb imm s
  | .ldindw r imm => Sys2Proof.Machine.execLdindw r imm s
  | .ldindh r imm => Sys2Proof.Machine.execLdindh r imm s
  | .ldindb r imm => Sys2Proof.Machine.execLdindb r imm s
  | .imm64SecondSlot nextImm => Sys2Proof.Machine.execImm64SecondSlot nextImm s

end Sys2Proof.Machine
end

