-- ==== Sys2Proof/Machine/Fetch.lean ====
section
/-! DEFINITION. Instruction fetch (R59, R404, R411 steps 1 and 2): the range check, then the decoder. -/
namespace Sys2Proof.Machine

/-- The instruction at `pc` (R85, R403, R404): `PcOutOfRange(pc)` outside `[0, N)`, `IllegalInstruction(pc)` where
the decoder answers `Illegal`. -/
def fetch (s : State) : Except Cause Instr :=
  if s.pc < 0 then .error (.pcOutOfRange s.pc)
  else
    match s.prog[s.pc.toNat]? with
    | none => .error (.pcOutOfRange s.pc)
    | some slot =>
      match decode s.plat.endian s.plat.groups slot s.prog[s.pc.toNat + 1]? with
      | .ok i => .ok i
      | .error _ => .error (.illegalInstruction s.pc)

/-- The program with a slot put at an index, zero slots filling the way there. -/
def placeSlot : List Slot → Nat → Slot → List Slot
  | [], 0, v => [v]
  | [], k + 1, v => 0 :: placeSlot [] k v
  | _ :: ss, 0, v => v :: ss
  | x :: ss, k + 1, v => x :: placeSlot ss k v

/-- The state with an instruction's two canonical words placed at `pc` in the program text and the run made
runnable: a negative `pc` becomes 0, the status `running`. -/
def placeInstruction (s : State) (w1 w2 : InsnWord) : State :=
  let p := s.pc.toNat
  let lay := slotOfWord s.plat.endian
  { s with prog := placeSlot (placeSlot s.prog p (lay w1)) (p + 1) (lay w2), pc := p, st := .running }

end Sys2Proof.Machine
end

