-- ==== Sys2Proof/Machine/Step.lean ====
section
/-! DEFINITION. One step of the machine (R26, R401, R411, R452), and where the host places an instruction to run. -/
namespace Sys2Proof.Machine

/-- Fetch, decode and execute at a state whose status is `running`; a fetch fault is raised (R411). -/
def runInstruction (s : State) : Host.Outcome State Fault Refusal :=
  match fetch s with
  | .ok i => exec i s
  | .error c => .next (raise c s)

/-- One step: `ENV` fires once (R53), then the instruction at `pc` runs. A run that has exited or faulted has no
further step (R264, R401). -/
def step (s : State) : Host.Outcome State Fault Refusal :=
  match s.st with
  | .running => runInstruction (envTick s)
  | .exited => .fault .runExited
  | .faulted _ _ => .fault .runFaulted

/-- The state in which the next step fetches and runs exactly the instruction whose canonical words are the bits
of `w` (those above `nbits` zero): its two words stand at slots `pc` and `pc + 1` of the program text. It stands
for the platform's loading of a program (notes/assumptions/14.md). -/
def State.withFetchWord (s : State) (nbits w : Nat) : State :=
  placeInstruction s (tableWords nbits w).1 (tableWords nbits w).2

end Sys2Proof.Machine
end

