-- ==== Sys2Proof/Safety.lean ====
section
/-! DEFINITION. The terms claims are stated in: a run, a completed run, a run without a fault (R264, R401), and the
invariant of the model's states. -/
namespace Sys2Proof.Machine

/-! ## Next states, as claims name them -/

/-- `s` after an instruction that writes `v` to `x[d]`, goes to the next slot, and does nothing else. -/
def wrote (s : State) (d : RegIdx) (v : Word) : State :=
  { s with regs := putReg s.regs d (.val v), pc := s.pc + 1 }

/-- `s` after an instruction that only sets `pc`. -/
def wentTo (s : State) (t : Int) : State :=
  { s with pc := t }

/-- `s` after an instruction that leaves the data memory `m`, goes to the next slot, and does nothing else. -/
def wroteMem (s : State) (m : Memory) : State :=
  { s with mem := m, pc := s.pc + 1 }

/-- `s` after an instruction that faults: the status alone changes, and it records the cause and the
instruction's slot (R401). -/
def stopped (s : State) (c : Cause) : State :=
  { s with st := .faulted c s.pc }

/-- The place of byte `i` of `k` bytes in a value, least significant first, under a byte order (R43, R44). -/
def bytePlace (e : Endian) (k i : Nat) : Nat :=
  match e with
  | .little => i
  | .big => k - 1 - i

/-- The `k` bytes at an address are those of the value `v` in host byte order (R43 step 3, R44 step 3). -/
def BytesAt {n : Nat} (e : Endian) (m : Memory) (a : Word) (k : Nat) (v : BitVec n) : Prop :=
  ∀ i, i < k → readByte m (byteAddr a i) = v.extractLsb' (8 * bytePlace e k i) 8

/-- No byte but the `k` bytes at the address differs between the two memories (R44). -/
def OnlyBytes (m m' : Memory) (a : Word) (k : Nat) : Prop :=
  ∀ x, (∀ i, i < k → x ≠ byteAddr a i) → readByte m' x = readByte m x

/-- `m'` is `m` with the `k` bytes of `v` written at the address in host byte order, every other byte as it
was, and in canonical form (R44). -/
def Stored {n : Nat} (e : Endian) (m m' : Memory) (a : Word) (k : Nat) (v : BitVec n) : Prop :=
  BytesAt e m' a k v ∧ OnlyBytes m m' a k ∧ memoryWf m' = true

/-- The platform lets the access happen: the alignment check (always for an atomic, under `STRICT_ALIGN` for a
plain access) and `MemOK` both pass (R46, R49). -/
def Admitted (s : State) (a : Word) (z : Size) (k : AccessKind) : Prop :=
  ((k = .atomic ∨ s.plat.strictAlign = true) → a.toNat % sizeBytes z = 0) ∧ memOK s.plat a z k = true

/-! ## Runs -/

/-- The run has reached a fault (R401). -/
def isFaulted (s : State) : Bool :=
  match s.st with
  | .faulted _ _ => true
  | .running => false
  | .exited => false

/-- `k` steps from a state, when all of them answer a next state. -/
def runFor : Nat → State → Option State
  | 0, s => some s
  | k + 1, s =>
    match step s with
    | .next t => runFor k t
    | .fault _ => none
    | .refused _ => none

/-- A completed run: it reaches `Exited`, and the final state is the run's result (R264). -/
def CompletesWith (s t : State) : Prop :=
  ∃ k, runFor k s = some t ∧ t.st = .exited

/-- A safe run: "a claim of safety is a claim that no fault is reachable" (R401). -/
def SafeRun (s : State) : Prop :=
  ∀ k t, runFor k s = some t → isFaulted t = false

/-- The frame holds saved registers exactly when `CALL_FRAME = saved` (R262). -/
def frameFits (p : Platform) (f : Frame) : Bool :=
  match p.callFrame, f.saved with
  | .bare, none => true
  | .saved, some _ => true
  | .bare, some _ => false
  | .saved, none => false

/-- The call stack is within `MAX_CALL_DEPTH` (R262, R409). -/
def depthFits (p : Platform) (cs : List Frame) : Bool :=
  match p.maxCallDepth with
  | none => true
  | some n => decide (cs.length ≤ n)

/-- The invariant of the model: data memory is in canonical form inside the 64-bit address space (R40), every
frame of the call stack has the shape `CALL_FRAME` gives it, and the stack is within `MAX_CALL_DEPTH` (R262). -/
def StateInv (s : State) : Prop :=
  memoryWf s.mem = true ∧ s.cs.all (frameFits s.plat) = true ∧ depthFits s.plat s.cs = true

end Sys2Proof.Machine
end

