-- ==== Sys2Proof/Certificates/Slice0/Obligations.lean ====
section
/-! DEFINITION. The statements for the provers. Each docstring names the rules of spec/ it formalises. Unless a
statement says otherwise its next states are whole states, so it states the frame too: what it does not name is
unchanged. -/
open Sys2Proof Sys2Proof.Machine

/-- R100, R101, R102, R140, R141: wrap-around arithmetic of class ALU and its frame. -/
def Obligations.Alu32AddSubMulNegResult : Prop :=
  (∀ (d : RegIdx) (imm : Imm) (s : State) (x : Word), getReg s.regs d = .val x →
    exec (.add32K d imm) s = .next (wrote s d (((x.setWidth 32) + imm).setWidth 64)) ∧
    exec (.sub32K d imm) s = .next (wrote s d (((x.setWidth 32) - imm).setWidth 64)) ∧
    exec (.mul32K d imm) s = .next (wrote s d (((x.setWidth 32) * imm).setWidth 64))) ∧
  (∀ (d r : RegIdx) (s : State) (x y : Word), getReg s.regs d = .val x → getReg s.regs r = .val y →
    exec (.add32X d r) s = .next (wrote s d (((x.setWidth 32) + (y.setWidth 32)).setWidth 64)) ∧
    exec (.sub32X d r) s = .next (wrote s d (((x.setWidth 32) - (y.setWidth 32)).setWidth 64)) ∧
    exec (.mul32X d r) s = .next (wrote s d (((x.setWidth 32) * (y.setWidth 32)).setWidth 64))) ∧
  (∀ (d : RegIdx) (s : State) (x : Word), getReg s.regs d = .val x →
    exec (.neg32 d) s = .next (wrote s d ((-(x.setWidth 32)).setWidth 64)))

/-- R100 to R102, R130 to R133, R140, R141, R169 to R173: bitwise operations and moves of class ALU. -/
def Obligations.Alu32BitwiseMoveResult : Prop :=
  (∀ (d : RegIdx) (imm : Imm) (s : State) (x : Word), getReg s.regs d = .val x →
    exec (.or32K d imm) s = .next (wrote s d (((x.setWidth 32) ||| imm).setWidth 64)) ∧
    exec (.and32K d imm) s = .next (wrote s d (((x.setWidth 32) &&& imm).setWidth 64)) ∧
    exec (.xor32K d imm) s = .next (wrote s d (((x.setWidth 32) ^^^ imm).setWidth 64))) ∧
  (∀ (d r : RegIdx) (s : State) (x y : Word), getReg s.regs d = .val x → getReg s.regs r = .val y →
    exec (.or32X d r) s = .next (wrote s d (((x.setWidth 32) ||| (y.setWidth 32)).setWidth 64)) ∧
    exec (.and32X d r) s = .next (wrote s d (((x.setWidth 32) &&& (y.setWidth 32)).setWidth 64)) ∧
    exec (.xor32X d r) s = .next (wrote s d (((x.setWidth 32) ^^^ (y.setWidth 32)).setWidth 64))) ∧
  (∀ (d : RegIdx) (imm : Imm) (s : State),
    exec (.mov32K d imm) s = .next (wrote s d ((imm).setWidth 64))) ∧
  (∀ (d r : RegIdx) (s : State) (y : Word), getReg s.regs r = .val y →
    exec (.mov32X d r) s = .next (wrote s d ((y.setWidth 32).setWidth 64)) ∧
    exec (.movsx32_8 d r) s = .next (wrote s d (((y.setWidth 8).signExtend 32).setWidth 64)) ∧
    exec (.movsx32_16 d r) s = .next (wrote s d (((y.setWidth 16).signExtend 32).setWidth 64)))

/-- R103: unsigned division and remainder of class ALU. -/
def Obligations.Alu32UnsignedDivModResult : Prop :=
  (∀ (d : RegIdx) (imm : Imm) (s : State) (x : Word), getReg s.regs d = .val x →
    exec (.div32K d imm) s = .next (wrote s d ((if imm = 0 then 0 else (x.setWidth 32) / imm).setWidth 64)) ∧
    exec (.mod32K d imm) s = .next (wrote s d ((if imm = 0 then x.setWidth 32 else (x.setWidth 32) % imm).setWidth 64))) ∧
  (∀ (d r : RegIdx) (s : State) (x y : Word), getReg s.regs d = .val x → getReg s.regs r = .val y →
    exec (.div32X d r) s = .next (wrote s d ((if y.setWidth 32 = 0 then 0 else (x.setWidth 32) / (y.setWidth 32)).setWidth 64)) ∧
    exec (.mod32X d r) s = .next (wrote s d ((if y.setWidth 32 = 0 then x.setWidth 32 else (x.setWidth 32) % (y.setWidth 32)).setWidth 64)))

/-- R103 with decision D28: signed division and remainder of class ALU. -/
def Obligations.Alu32SignedDivModResult : Prop :=
  (∀ (d : RegIdx) (imm : Imm) (s : State) (x : Word), getReg s.regs d = .val x →
    exec (.sdiv32K d imm) s = .next (wrote s d ((if imm = 0 then 0 else BitVec.sdiv (x.setWidth 32) imm).setWidth 64)) ∧
    exec (.smod32K d imm) s = .next (wrote s d ((if imm = 0 then x.setWidth 32 else BitVec.srem (x.setWidth 32) imm).setWidth 64))) ∧
  (∀ (d r : RegIdx) (s : State) (x y : Word), getReg s.regs d = .val x → getReg s.regs r = .val y →
    exec (.sdiv32X d r) s = .next (wrote s d ((if y.setWidth 32 = 0 then 0 else BitVec.sdiv (x.setWidth 32) (y.setWidth 32)).setWidth 64)) ∧
    exec (.smod32X d r) s = .next (wrote s d ((if y.setWidth 32 = 0 then x.setWidth 32 else BitVec.srem (x.setWidth 32) (y.setWidth 32)).setWidth 64)))

/-- R102, R143: masked shifts of class ALU. -/
def Obligations.Alu32ShiftResult : Prop :=
  (∀ (d : RegIdx) (imm : Imm) (s : State) (x : Word), getReg s.regs d = .val x →
    exec (.lsh32K d imm) s = .next (wrote s d (((x.setWidth 32) <<< ((imm).toNat % 32)).setWidth 64)) ∧
    exec (.rsh32K d imm) s = .next (wrote s d (((x.setWidth 32) >>> ((imm).toNat % 32)).setWidth 64)) ∧
    exec (.arsh32K d imm) s = .next (wrote s d ((BitVec.sshiftRight (x.setWidth 32) ((imm).toNat % 32)).setWidth 64))) ∧
  (∀ (d r : RegIdx) (s : State) (x y : Word), getReg s.regs d = .val x → getReg s.regs r = .val y →
    exec (.lsh32X d r) s = .next (wrote s d (((x.setWidth 32) <<< ((y.setWidth 32).toNat % 32)).setWidth 64)) ∧
    exec (.rsh32X d r) s = .next (wrote s d (((x.setWidth 32) >>> ((y.setWidth 32).toNat % 32)).setWidth 64)) ∧
    exec (.arsh32X d r) s = .next (wrote s d ((BitVec.sshiftRight (x.setWidth 32) ((y.setWidth 32).toNat % 32)).setWidth 64)))

/-- R100, R101, R102, R140, R141: wrap-around arithmetic of class ALU64 and its frame. -/
def Obligations.Alu64AddSubMulNegResult : Prop :=
  (∀ (d : RegIdx) (imm : Imm) (s : State) (x : Word), getReg s.regs d = .val x →
    exec (.add64K d imm) s = .next (wrote s d (x + (imm.signExtend 64))) ∧
    exec (.sub64K d imm) s = .next (wrote s d (x - (imm.signExtend 64))) ∧
    exec (.mul64K d imm) s = .next (wrote s d (x * (imm.signExtend 64)))) ∧
  (∀ (d r : RegIdx) (s : State) (x y : Word), getReg s.regs d = .val x → getReg s.regs r = .val y →
    exec (.add64X d r) s = .next (wrote s d (x + y)) ∧
    exec (.sub64X d r) s = .next (wrote s d (x - y)) ∧
    exec (.mul64X d r) s = .next (wrote s d (x * y))) ∧
  (∀ (d : RegIdx) (s : State) (x : Word), getReg s.regs d = .val x →
    exec (.neg64 d) s = .next (wrote s d (-x)))

/-- R100 to R102, R130 to R133, R140, R141, R169 to R173: bitwise operations and moves of class ALU64. -/
def Obligations.Alu64BitwiseMoveResult : Prop :=
  (∀ (d : RegIdx) (imm : Imm) (s : State) (x : Word), getReg s.regs d = .val x →
    exec (.or64K d imm) s = .next (wrote s d (x ||| (imm.signExtend 64))) ∧
    exec (.and64K d imm) s = .next (wrote s d (x &&& (imm.signExtend 64))) ∧
    exec (.xor64K d imm) s = .next (wrote s d (x ^^^ (imm.signExtend 64)))) ∧
  (∀ (d r : RegIdx) (s : State) (x y : Word), getReg s.regs d = .val x → getReg s.regs r = .val y →
    exec (.or64X d r) s = .next (wrote s d (x ||| y)) ∧
    exec (.and64X d r) s = .next (wrote s d (x &&& y)) ∧
    exec (.xor64X d r) s = .next (wrote s d (x ^^^ y))) ∧
  (∀ (d : RegIdx) (imm : Imm) (s : State),
    exec (.mov64K d imm) s = .next (wrote s d (imm.signExtend 64))) ∧
  (∀ (d r : RegIdx) (s : State) (y : Word), getReg s.regs r = .val y →
    exec (.mov64X d r) s = .next (wrote s d (y)) ∧
    exec (.movsx64_8 d r) s = .next (wrote s d ((y.setWidth 8).signExtend 64)) ∧
    exec (.movsx64_16 d r) s = .next (wrote s d ((y.setWidth 16).signExtend 64)) ∧
    exec (.movsx64_32 d r) s = .next (wrote s d ((y.setWidth 32).signExtend 64)))

/-- R103: unsigned division and remainder of class ALU64. -/
def Obligations.Alu64UnsignedDivModResult : Prop :=
  (∀ (d : RegIdx) (imm : Imm) (s : State) (x : Word), getReg s.regs d = .val x →
    exec (.div64K d imm) s = .next (wrote s d (if imm.signExtend 64 = 0 then 0 else x / (imm.signExtend 64))) ∧
    exec (.mod64K d imm) s = .next (wrote s d (if imm.signExtend 64 = 0 then x else x % (imm.signExtend 64)))) ∧
  (∀ (d r : RegIdx) (s : State) (x y : Word), getReg s.regs d = .val x → getReg s.regs r = .val y →
    exec (.div64X d r) s = .next (wrote s d (if y = 0 then 0 else x / y)) ∧
    exec (.mod64X d r) s = .next (wrote s d (if y = 0 then x else x % y)))

/-- R103 with decision D28: signed division and remainder of class ALU64. -/
def Obligations.Alu64SignedDivModResult : Prop :=
  (∀ (d : RegIdx) (imm : Imm) (s : State) (x : Word), getReg s.regs d = .val x →
    exec (.sdiv64K d imm) s = .next (wrote s d (if imm.signExtend 64 = 0 then 0 else BitVec.sdiv x (imm.signExtend 64))) ∧
    exec (.smod64K d imm) s = .next (wrote s d (if imm.signExtend 64 = 0 then x else BitVec.srem x (imm.signExtend 64)))) ∧
  (∀ (d r : RegIdx) (s : State) (x y : Word), getReg s.regs d = .val x → getReg s.regs r = .val y →
    exec (.sdiv64X d r) s = .next (wrote s d (if y = 0 then 0 else BitVec.sdiv x y)) ∧
    exec (.smod64X d r) s = .next (wrote s d (if y = 0 then x else BitVec.srem x y)))

/-- R102, R143: masked shifts of class ALU64. -/
def Obligations.Alu64ShiftResult : Prop :=
  (∀ (d : RegIdx) (imm : Imm) (s : State) (x : Word), getReg s.regs d = .val x →
    exec (.lsh64K d imm) s = .next (wrote s d (x <<< ((imm.signExtend 64).toNat % 64))) ∧
    exec (.rsh64K d imm) s = .next (wrote s d (x >>> ((imm.signExtend 64).toNat % 64))) ∧
    exec (.arsh64K d imm) s = .next (wrote s d (BitVec.sshiftRight x ((imm.signExtend 64).toNat % 64)))) ∧
  (∀ (d r : RegIdx) (s : State) (x y : Word), getReg s.regs d = .val x → getReg s.regs r = .val y →
    exec (.lsh64X d r) s = .next (wrote s d (x <<< ((y).toNat % 64))) ∧
    exec (.rsh64X d r) s = .next (wrote s d (x >>> ((y).toNat % 64))) ∧
    exec (.arsh64X d r) s = .next (wrote s d (BitVec.sshiftRight x ((y).toNat % 64))))

/-- R142, whole: MOD and SMOD by zero in class ALU64 leave all 64 bits, DIV and SDIV write 0. -/
def Obligations.Alu64ModByZeroUnchanged : Prop :=
  ∀ (d r : RegIdx) (s : State) (x : Word), getReg s.regs d = .val x →
    (exec (.mod64K d 0) s = .next (wentTo s (s.pc + 1)) ∧
      exec (.smod64K d 0) s = .next (wentTo s (s.pc + 1)) ∧
      exec (.div64K d 0) s = .next (wrote s d 0) ∧
      exec (.sdiv64K d 0) s = .next (wrote s d 0)) ∧
    (getReg s.regs r = .val 0 →
      exec (.mod64X d r) s = .next (wentTo s (s.pc + 1)) ∧
      exec (.smod64X d r) s = .next (wentTo s (s.pc + 1)) ∧
      exec (.div64X d r) s = .next (wrote s d 0) ∧
      exec (.sdiv64X d r) s = .next (wrote s d 0))

/-- R143, whole: the shift count of class ALU64 is bits 5:0 of the operand. -/
def Obligations.Alu64ShiftCountMasked : Prop :=
  (∀ (d : RegIdx) (imm : Imm) (s : State) (x : Word), getReg s.regs d = .val x →
    exec (.lsh64K d imm) s = .next (wrote s d (x <<< (imm.extractLsb' 0 6).toNat)) ∧
    exec (.rsh64K d imm) s = .next (wrote s d (x >>> (imm.extractLsb' 0 6).toNat)) ∧
    exec (.arsh64K d imm) s = .next (wrote s d (BitVec.sshiftRight x (imm.extractLsb' 0 6).toNat))) ∧
  (∀ (d r : RegIdx) (s : State) (x y : Word), getReg s.regs d = .val x → getReg s.regs r = .val y →
    exec (.lsh64X d r) s = .next (wrote s d (x <<< (y.extractLsb' 0 6).toNat)) ∧
    exec (.rsh64X d r) s = .next (wrote s d (x >>> (y.extractLsb' 0 6).toNat)) ∧
    exec (.arsh64X d r) s = .next (wrote s d (BitVec.sshiftRight x (y.extractLsb' 0 6).toNat)))

/-- R181, R182 with decision D26: the byte swaps, their dependence on the host order and their frame. -/
def Obligations.ByteSwapResult : Prop :=
  ∀ (d : RegIdx) (s : State) (x : Word), getReg s.regs d = .val x →
    (s.plat.endian = .little →
      exec (.le16 d) s = .next (wrote s d ((x.setWidth 16).setWidth 64)) ∧
      exec (.le32 d) s = .next (wrote s d ((x.setWidth 32).setWidth 64)) ∧
      exec (.le64 d) s = .next (wrote s d ((x.setWidth 64).setWidth 64)) ∧
      exec (.be16 d) s = .next (wrote s d ((x.extractLsb' 0 8 ++ x.extractLsb' 8 8).setWidth 64)) ∧
      exec (.be32 d) s = .next (wrote s d ((x.extractLsb' 0 8 ++ x.extractLsb' 8 8 ++ x.extractLsb' 16 8 ++ x.extractLsb' 24 8).setWidth 64)) ∧
      exec (.be64 d) s = .next (wrote s d ((x.extractLsb' 0 8 ++ x.extractLsb' 8 8 ++ x.extractLsb' 16 8 ++ x.extractLsb' 24 8 ++ x.extractLsb' 32 8 ++ x.extractLsb' 40 8 ++ x.extractLsb' 48 8 ++ x.extractLsb' 56 8).setWidth 64))) ∧
    (s.plat.endian = .big →
      exec (.le16 d) s = .next (wrote s d ((x.extractLsb' 0 8 ++ x.extractLsb' 8 8).setWidth 64)) ∧
      exec (.le32 d) s = .next (wrote s d ((x.extractLsb' 0 8 ++ x.extractLsb' 8 8 ++ x.extractLsb' 16 8 ++ x.extractLsb' 24 8).setWidth 64)) ∧
      exec (.le64 d) s = .next (wrote s d ((x.extractLsb' 0 8 ++ x.extractLsb' 8 8 ++ x.extractLsb' 16 8 ++ x.extractLsb' 24 8 ++ x.extractLsb' 32 8 ++ x.extractLsb' 40 8 ++ x.extractLsb' 48 8 ++ x.extractLsb' 56 8).setWidth 64)) ∧
      exec (.be16 d) s = .next (wrote s d ((x.setWidth 16).setWidth 64)) ∧
      exec (.be32 d) s = .next (wrote s d ((x.setWidth 32).setWidth 64)) ∧
      exec (.be64 d) s = .next (wrote s d ((x.setWidth 64).setWidth 64))) ∧
    exec (.bswap16 d) s = .next (wrote s d ((x.extractLsb' 0 8 ++ x.extractLsb' 8 8).setWidth 64)) ∧
    exec (.bswap32 d) s = .next (wrote s d ((x.extractLsb' 0 8 ++ x.extractLsb' 8 8 ++ x.extractLsb' 16 8 ++ x.extractLsb' 24 8).setWidth 64)) ∧
    exec (.bswap64 d) s = .next (wrote s d ((x.extractLsb' 0 8 ++ x.extractLsb' 8 8 ++ x.extractLsb' 16 8 ++ x.extractLsb' 24 8 ++ x.extractLsb' 32 8 ++ x.extractLsb' 40 8 ++ x.extractLsb' 48 8 ++ x.extractLsb' 56 8).setWidth 64))

/-- R202, R203, R205, R206: the unconditional jumps. -/
def Obligations.UnconditionalJumpTarget : Prop :=
  (∀ (off : Off) (s : State),
    exec (.ja off) s =
      .next (wentTo s (s.pc + 1 + (if off.toNat < 2 ^ 15 then (off.toNat : Int) else (off.toNat : Int) - 2 ^ 16)))) ∧
  (∀ (imm : Imm) (s : State),
    exec (.ja32 imm) s =
      .next (wentTo s (s.pc + 1 + (if imm.toNat < 2 ^ 31 then (imm.toNat : Int) else (imm.toNat : Int) - 2 ^ 32))))

/-- R201, R202: the conditional jumps at 64 bits; the conditions in the readings of the library's unsigned and signed orders. -/
def Obligations.ConditionalJump64Result : Prop :=
  (∀ (d : RegIdx) (off : Off) (imm : Imm) (s : State) (x : Word), getReg s.regs d = .val x →
    exec (.jeq64K d off imm) s = .next (wentTo s (if x = (imm.signExtend 64) then s.pc + 1 + off.toInt else s.pc + 1)) ∧
    exec (.jne64K d off imm) s = .next (wentTo s (if x ≠ (imm.signExtend 64) then s.pc + 1 + off.toInt else s.pc + 1)) ∧
    exec (.jset64K d off imm) s = .next (wentTo s (if x &&& (imm.signExtend 64) ≠ 0 then s.pc + 1 + off.toInt else s.pc + 1)) ∧
    exec (.jgt64K d off imm) s = .next (wentTo s (if BitVec.ult (imm.signExtend 64) x then s.pc + 1 + off.toInt else s.pc + 1)) ∧
    exec (.jge64K d off imm) s = .next (wentTo s (if BitVec.ule (imm.signExtend 64) x then s.pc + 1 + off.toInt else s.pc + 1)) ∧
    exec (.jlt64K d off imm) s = .next (wentTo s (if BitVec.ult x (imm.signExtend 64) then s.pc + 1 + off.toInt else s.pc + 1)) ∧
    exec (.jle64K d off imm) s = .next (wentTo s (if BitVec.ule x (imm.signExtend 64) then s.pc + 1 + off.toInt else s.pc + 1)) ∧
    exec (.jsgt64K d off imm) s = .next (wentTo s (if BitVec.slt (imm.signExtend 64) x then s.pc + 1 + off.toInt else s.pc + 1)) ∧
    exec (.jsge64K d off imm) s = .next (wentTo s (if BitVec.sle (imm.signExtend 64) x then s.pc + 1 + off.toInt else s.pc + 1)) ∧
    exec (.jslt64K d off imm) s = .next (wentTo s (if BitVec.slt x (imm.signExtend 64) then s.pc + 1 + off.toInt else s.pc + 1)) ∧
    exec (.jsle64K d off imm) s = .next (wentTo s (if BitVec.sle x (imm.signExtend 64) then s.pc + 1 + off.toInt else s.pc + 1))) ∧
  (∀ (d r : RegIdx) (off : Off) (s : State) (x y : Word), getReg s.regs d = .val x → getReg s.regs r = .val y →
    exec (.jeq64X d r off) s = .next (wentTo s (if x = y then s.pc + 1 + off.toInt else s.pc + 1)) ∧
    exec (.jne64X d r off) s = .next (wentTo s (if x ≠ y then s.pc + 1 + off.toInt else s.pc + 1)) ∧
    exec (.jset64X d r off) s = .next (wentTo s (if x &&& y ≠ 0 then s.pc + 1 + off.toInt else s.pc + 1)) ∧
    exec (.jgt64X d r off) s = .next (wentTo s (if BitVec.ult y x then s.pc + 1 + off.toInt else s.pc + 1)) ∧
    exec (.jge64X d r off) s = .next (wentTo s (if BitVec.ule y x then s.pc + 1 + off.toInt else s.pc + 1)) ∧
    exec (.jlt64X d r off) s = .next (wentTo s (if BitVec.ult x y then s.pc + 1 + off.toInt else s.pc + 1)) ∧
    exec (.jle64X d r off) s = .next (wentTo s (if BitVec.ule x y then s.pc + 1 + off.toInt else s.pc + 1)) ∧
    exec (.jsgt64X d r off) s = .next (wentTo s (if BitVec.slt y x then s.pc + 1 + off.toInt else s.pc + 1)) ∧
    exec (.jsge64X d r off) s = .next (wentTo s (if BitVec.sle y x then s.pc + 1 + off.toInt else s.pc + 1)) ∧
    exec (.jslt64X d r off) s = .next (wentTo s (if BitVec.slt x y then s.pc + 1 + off.toInt else s.pc + 1)) ∧
    exec (.jsle64X d r off) s = .next (wentTo s (if BitVec.sle x y then s.pc + 1 + off.toInt else s.pc + 1)))

/-- R201, R202: the conditional jumps at 32 bits; the conditions in the readings of the library's unsigned and signed orders. -/
def Obligations.ConditionalJump32Result : Prop :=
  (∀ (d : RegIdx) (off : Off) (imm : Imm) (s : State) (x : Word), getReg s.regs d = .val x →
    exec (.jeq32K d off imm) s = .next (wentTo s (if (x.setWidth 32) = imm then s.pc + 1 + off.toInt else s.pc + 1)) ∧
    exec (.jne32K d off imm) s = .next (wentTo s (if (x.setWidth 32) ≠ imm then s.pc + 1 + off.toInt else s.pc + 1)) ∧
    exec (.jset32K d off imm) s = .next (wentTo s (if (x.setWidth 32) &&& imm ≠ 0 then s.pc + 1 + off.toInt else s.pc + 1)) ∧
    exec (.jgt32K d off imm) s = .next (wentTo s (if BitVec.ult imm (x.setWidth 32) then s.pc + 1 + off.toInt else s.pc + 1)) ∧
    exec (.jge32K d off imm) s = .next (wentTo s (if BitVec.ule imm (x.setWidth 32) then s.pc + 1 + off.toInt else s.pc + 1)) ∧
    exec (.jlt32K d off imm) s = .next (wentTo s (if BitVec.ult (x.setWidth 32) imm then s.pc + 1 + off.toInt else s.pc + 1)) ∧
    exec (.jle32K d off imm) s = .next (wentTo s (if BitVec.ule (x.setWidth 32) imm then s.pc + 1 + off.toInt else s.pc + 1)) ∧
    exec (.jsgt32K d off imm) s = .next (wentTo s (if BitVec.slt imm (x.setWidth 32) then s.pc + 1 + off.toInt else s.pc + 1)) ∧
    exec (.jsge32K d off imm) s = .next (wentTo s (if BitVec.sle imm (x.setWidth 32) then s.pc + 1 + off.toInt else s.pc + 1)) ∧
    exec (.jslt32K d off imm) s = .next (wentTo s (if BitVec.slt (x.setWidth 32) imm then s.pc + 1 + off.toInt else s.pc + 1)) ∧
    exec (.jsle32K d off imm) s = .next (wentTo s (if BitVec.sle (x.setWidth 32) imm then s.pc + 1 + off.toInt else s.pc + 1))) ∧
  (∀ (d r : RegIdx) (off : Off) (s : State) (x y : Word), getReg s.regs d = .val x → getReg s.regs r = .val y →
    exec (.jeq32X d r off) s = .next (wentTo s (if (x.setWidth 32) = (y.setWidth 32) then s.pc + 1 + off.toInt else s.pc + 1)) ∧
    exec (.jne32X d r off) s = .next (wentTo s (if (x.setWidth 32) ≠ (y.setWidth 32) then s.pc + 1 + off.toInt else s.pc + 1)) ∧
    exec (.jset32X d r off) s = .next (wentTo s (if (x.setWidth 32) &&& (y.setWidth 32) ≠ 0 then s.pc + 1 + off.toInt else s.pc + 1)) ∧
    exec (.jgt32X d r off) s = .next (wentTo s (if BitVec.ult (y.setWidth 32) (x.setWidth 32) then s.pc + 1 + off.toInt else s.pc + 1)) ∧
    exec (.jge32X d r off) s = .next (wentTo s (if BitVec.ule (y.setWidth 32) (x.setWidth 32) then s.pc + 1 + off.toInt else s.pc + 1)) ∧
    exec (.jlt32X d r off) s = .next (wentTo s (if BitVec.ult (x.setWidth 32) (y.setWidth 32) then s.pc + 1 + off.toInt else s.pc + 1)) ∧
    exec (.jle32X d r off) s = .next (wentTo s (if BitVec.ule (x.setWidth 32) (y.setWidth 32) then s.pc + 1 + off.toInt else s.pc + 1)) ∧
    exec (.jsgt32X d r off) s = .next (wentTo s (if BitVec.slt (y.setWidth 32) (x.setWidth 32) then s.pc + 1 + off.toInt else s.pc + 1)) ∧
    exec (.jsge32X d r off) s = .next (wentTo s (if BitVec.sle (y.setWidth 32) (x.setWidth 32) then s.pc + 1 + off.toInt else s.pc + 1)) ∧
    exec (.jslt32X d r off) s = .next (wentTo s (if BitVec.slt (x.setWidth 32) (y.setWidth 32) then s.pc + 1 + off.toInt else s.pc + 1)) ∧
    exec (.jsle32X d r off) s = .next (wentTo s (if BitVec.sle (x.setWidth 32) (y.setWidth 32) then s.pc + 1 + off.toInt else s.pc + 1)))

/-- R262: the program-local call, under both values of CALL_FRAME, and its depth fault. -/
def Obligations.CallLocalPushesFrame : Prop :=
  ∀ (imm : Imm) (s : State),
    ((∀ n, s.plat.maxCallDepth = some n → s.cs.length < n) →
      (s.plat.callFrame = .bare →
        exec (.callLocal imm) s = .next { s with cs := ⟨s.pc + 1, none⟩ :: s.cs, pc := s.pc + 1 + imm.toInt }) ∧
      (s.plat.callFrame = .saved →
        exec (.callLocal imm) s = .next { s with
          cs := ⟨s.pc + 1, some ⟨getReg s.regs .r6, getReg s.regs .r7, getReg s.regs .r8, getReg s.regs .r9,
            getReg s.regs .r10⟩⟩ :: s.cs,
          pc := s.pc + 1 + imm.toInt })) ∧
    (∀ n, s.plat.maxCallDepth = some n → n ≤ s.cs.length →
      exec (.callLocal imm) s = .next (stopped s (.callDepthExceeded s.pc)))

/-- R264: the return and the end of the run. -/
def Obligations.ExitReturnsOrEndsRun : Prop :=
  ∀ (s : State),
    (s.cs = [] → exec .exit s = .next { s with st := .exited }) ∧
    (∀ f rest, s.cs = f :: rest →
      (s.plat.callFrame = .bare → exec .exit s = .next { s with cs := rest, pc := f.ret }) ∧
      (∀ v, s.plat.callFrame = .saved → f.saved = some v →
        exec .exit s = .next { s with
          regs := putReg (putReg (putReg (putReg (putReg s.regs .r6 v.r6) .r7 v.r7) .r8 v.r8) .r9 v.r9) .r10 v.r10
          cs := rest
          pc := f.ret }))

/-- R262, R264: a call and the EXIT that meets its frame. -/
def Obligations.CallThenExitReturns : Prop :=
  ∀ (imm : Imm) (s : State), (∀ n, s.plat.maxCallDepth = some n → s.cs.length < n) →
    ∃ t, exec (.callLocal imm) s = .next t ∧
      ∀ u : State, u.plat = t.plat → u.cs = t.cs →
        ∃ v, exec .exit u = .next v ∧ v.cs = s.cs ∧ v.pc = s.pc + 1 ∧ v.mem = u.mem ∧ v.st = u.st ∧
          (s.plat.callFrame = .bare → v.regs = u.regs) ∧
          (s.plat.callFrame = .saved →
            (∀ i ∈ [RegIdx.r6, .r7, .r8, .r9, .r10], getReg v.regs i = getReg s.regs i) ∧
            (∀ i ∈ [RegIdx.r0, .r1, .r2, .r3, .r4, .r5], getReg v.regs i = getReg u.regs i))

/-- R261, R263: a helper call that completes; the reply tape is the model's form of the relation HELPERS (notes/assumptions/9.md). -/
def Obligations.HelperCallCompletes : Prop :=
  ∀ (id : Imm) (s : State) (x : RegFile) (ws : List (Word × Byte)),
    ((.staticId, id) ∈ s.plat.helpers → nextReply s .staticId id = .done x ws →
      exec (.callHelper id) s = .next { s with
        regs := x, mem := writeList s.mem ws, pc := s.pc + 1, replies := s.replies.tail,
        freeCount := s.freeCount + 1 }) ∧
    ((.btfId, id) ∈ s.plat.helpers → nextReply s .btfId id = .done x ws →
      exec (.callBtf id) s = .next { s with
        regs := x, mem := writeList s.mem ws, pc := s.pc + 1, replies := s.replies.tail,
        freeCount := s.freeCount + 1 })

/-- R261, R263, R401, R409: the two helper faults. In the HelperFault clauses the helper answers by the reply tape, or by
a free value when it is empty, and a refused call uses up no reply: the model's form of the relation HELPERS
(DESIGN CHOICE: notes/assumptions/9.md and 11.md), which the rules do not say. -/
def Obligations.HelperCallFaults : Prop :=
  ∀ (id : Imm) (s : State),
    ((.staticId, id) ∉ s.plat.helpers → exec (.callHelper id) s = .next (stopped s (.unknownHelper .staticId id))) ∧
    ((.btfId, id) ∉ s.plat.helpers → exec (.callBtf id) s = .next (stopped s (.unknownHelper .btfId id))) ∧
    ((.staticId, id) ∈ s.plat.helpers → nextReply s .staticId id = .fault →
      exec (.callHelper id) s = .next (stopped s (.helperFault .staticId id))) ∧
    ((.btfId, id) ∈ s.plat.helpers → nextReply s .btfId id = .fault →
      exec (.callBtf id) s = .next (stopped s (.helperFault .btfId id)))

/-- R41 with decision D11: the effective address. -/
def Obligations.EffectiveAddressWraps : Prop :=
  ∀ (base : Word) (off : Off),
    ((effectiveAddress base off).toNat : Int) = ((base.toNat : Int) + off.toInt) % 2 ^ 64

/-- R43, whole: the three steps of MemRead. -/
def Obligations.MemReadSteps : Prop :=
  ∀ (s : State) (a : Word) (z : Size),
    (s.plat.strictAlign = true ∧ a.toNat % sizeBytes z ≠ 0 → memRead s a z = .error (.misaligned a z .read)) ∧
    (¬ (s.plat.strictAlign = true ∧ a.toNat % sizeBytes z ≠ 0) →
      (memOK s.plat a z .read = false → memRead s a z = .error (.memFault a z .read)) ∧
      (memOK s.plat a z .read = true →
        ∃ v, memRead s a z = .ok v ∧
          ∀ i, i < sizeBytes z →
            v.extractLsb' (8 * (match s.plat.endian with
              | .little => i
              | .big => sizeBytes z - 1 - i)) 8 = readByte s.mem ((a.toNat + i) % 2 ^ 64)))

/-- R44, whole: the steps of MemWrite and its frame. -/
def Obligations.MemWriteSteps : Prop :=
  ∀ (s : State) (a : Word) (z : Size) (v : BitVec (sizeBits z)), memoryWf s.mem = true →
    (s.plat.strictAlign = true ∧ a.toNat % sizeBytes z ≠ 0 → memWrite s a z v = .error (.misaligned a z .write)) ∧
    (¬ (s.plat.strictAlign = true ∧ a.toNat % sizeBytes z ≠ 0) →
      (memOK s.plat a z .write = false → memWrite s a z v = .error (.memFault a z .write)) ∧
      (memOK s.plat a z .write = true →
        ∃ m, memWrite s a z v = .ok { s with mem := m } ∧
          (∀ i, i < sizeBytes z →
            readByte m ((a.toNat + i) % 2 ^ 64) = v.extractLsb' (8 * (match s.plat.endian with
              | .little => i
              | .big => sizeBytes z - 1 - i)) 8) ∧
          ∀ x, (∀ i, i < sizeBytes z → x ≠ (a.toNat + i) % 2 ^ 64) → readByte m x = readByte s.mem x))

/-- R45, which the spec marks as its own inference [derived: from rule R43 and rule R44]: a load of bytes written by a
store at least as wide sees the corresponding bytes. -/
def Obligations.NarrowReadSeesWideStore : Prop :=
  ∀ (m : Memory) (a : Word) (y z : Size) (v : BitVec (sizeBits y)) (j : Nat),
    memoryWf m = true → j + sizeBytes z ≤ sizeBytes y →
    loadValue .little (storeValue .little m a y v) (a + BitVec.ofNat 64 j) z = v.extractLsb' (8 * j) (sizeBits z) ∧
    loadValue .big (storeValue .big m a y v) (a + BitVec.ofNat 64 j) z
      = v.extractLsb' (8 * (sizeBytes y - sizeBytes z - j)) (sizeBits z)

/-- R281, whole: loads of mode MEM zero-extend; with their frame. -/
def Obligations.LoadZeroExtends : Prop :=
  ∀ (d r : RegIdx) (off : Off) (s : State) (base : Word) (i : Instr) (z : Size),
    (i, z) ∈ ([(.ldxb d r off, .b), (.ldxh d r off, .h), (.ldxw d r off, .w), (.ldxdw d r off, .dw)] : List (Instr × Size)) →
    getReg s.regs r = .val base → Admitted s (effectiveAddress base off) z .read →
    ∃ v : BitVec (sizeBits z), BytesAt s.plat.endian s.mem (effectiveAddress base off) (sizeBytes z) v ∧
      exec i s = .next (wrote s d (v.setWidth 64))

/-- R282: loads of mode MEMSX sign-extend; with their frame. -/
def Obligations.LoadSignExtends : Prop :=
  ∀ (d r : RegIdx) (off : Off) (s : State) (base : Word) (i : Instr) (z : Size),
    (i, z) ∈ ([(.ldxsb d r off, .b), (.ldxsh d r off, .h), (.ldxsw d r off, .w)] : List (Instr × Size)) →
    getReg s.regs r = .val base → Admitted s (effectiveAddress base off) z .read →
    ∃ v : BitVec (sizeBits z), BytesAt s.plat.endian s.mem (effectiveAddress base off) (sizeBytes z) v ∧
      exec i s = .next (wrote s d (v.signExtend 64))

/-- R283, whole: stores of an immediate; with their frame. -/
def Obligations.StoreImmediateWritesBytes : Prop :=
  ∀ (d : RegIdx) (off : Off) (imm : Imm) (s : State) (base : Word) (i : Instr) (z : Size),
    (i, z) ∈ ([(.stb d off imm, .b), (.sth d off imm, .h), (.stw d off imm, .w), (.stdw d off imm, .dw)] :
      List (Instr × Size)) →
    memoryWf s.mem = true → getReg s.regs d = .val base → Admitted s (effectiveAddress base off) z .write →
    ∃ m, exec i s = .next (wroteMem s m) ∧
      Stored s.plat.endian s.mem m (effectiveAddress base off) (sizeBytes z)
        ((imm.signExtend 64).setWidth (sizeBits z))

/-- R284: stores of a register; with their frame. -/
def Obligations.StoreRegisterWritesBytes : Prop :=
  ∀ (d r : RegIdx) (off : Off) (s : State) (base v : Word) (i : Instr) (z : Size),
    (i, z) ∈ ([(.stxb d r off, .b), (.stxh d r off, .h), (.stxw d r off, .w), (.stxdw d r off, .dw)] :
      List (Instr × Size)) →
    memoryWf s.mem = true → getReg s.regs d = .val base → getReg s.regs r = .val v →
    Admitted s (effectiveAddress base off) z .write →
    ∃ m, exec i s = .next (wroteMem s m) ∧
      Stored s.plat.endian s.mem m (effectiveAddress base off) (sizeBytes z) (v.setWidth (sizeBits z))

/-- R55, R311, R313: the simple atomics at 32 bits; with their frame. -/
def Obligations.AtomicSimple32Result : Prop :=
  ∀ (d r : RegIdx) (off : Off) (s : State) (base v : Word) (i : Instr) (f : BitVec 32 → BitVec 32 → BitVec 32),
    (i, f) ∈ ([(.atomicAdd32 d r off, (· + ·)),
      (.atomicOr32 d r off, (· ||| ·)),
      (.atomicAnd32 d r off, (· &&& ·)),
      (.atomicXor32 d r off, (· ^^^ ·))] :
      List (Instr × (BitVec 32 → BitVec 32 → BitVec 32))) →
    memoryWf s.mem = true → getReg s.regs d = .val base → getReg s.regs r = .val v →
    Admitted s (effectiveAddress base off) .w .atomic →
    ∃ (old : BitVec 32) (m : Memory), BytesAt s.plat.endian s.mem (effectiveAddress base off) 4 old ∧
      Stored s.plat.endian s.mem m (effectiveAddress base off) 4 (f old (v.setWidth 32)) ∧
      exec i s = .next (wroteMem s m)

/-- R55, R312, R313: the atomics with FETCH at 32 bits; with their frame. -/
def Obligations.AtomicFetch32Result : Prop :=
  ∀ (d r : RegIdx) (off : Off) (s : State) (base v : Word) (i : Instr) (f : BitVec 32 → BitVec 32 → BitVec 32),
    (i, f) ∈ ([(.atomicFetchAdd32 d r off, (· + ·)),
      (.atomicFetchOr32 d r off, (· ||| ·)),
      (.atomicFetchAnd32 d r off, (· &&& ·)),
      (.atomicFetchXor32 d r off, (· ^^^ ·)),
      (.xchg32 d r off, fun _ v => v)] :
      List (Instr × (BitVec 32 → BitVec 32 → BitVec 32))) →
    memoryWf s.mem = true → getReg s.regs d = .val base → getReg s.regs r = .val v →
    Admitted s (effectiveAddress base off) .w .atomic →
    ∃ (old : BitVec 32) (m : Memory), BytesAt s.plat.endian s.mem (effectiveAddress base off) 4 old ∧
      Stored s.plat.endian s.mem m (effectiveAddress base off) 4 (f old (v.setWidth 32)) ∧
      exec i s = .next { wroteMem s m with regs := putReg s.regs r (.val (old.setWidth 64)) }

/-- R55, R311, R313: the simple atomics at 64 bits; with their frame. -/
def Obligations.AtomicSimple64Result : Prop :=
  ∀ (d r : RegIdx) (off : Off) (s : State) (base v : Word) (i : Instr) (f : BitVec 64 → BitVec 64 → BitVec 64),
    (i, f) ∈ ([(.atomicAdd64 d r off, (· + ·)),
      (.atomicOr64 d r off, (· ||| ·)),
      (.atomicAnd64 d r off, (· &&& ·)),
      (.atomicXor64 d r off, (· ^^^ ·))] :
      List (Instr × (BitVec 64 → BitVec 64 → BitVec 64))) →
    memoryWf s.mem = true → getReg s.regs d = .val base → getReg s.regs r = .val v →
    Admitted s (effectiveAddress base off) .dw .atomic →
    ∃ (old : BitVec 64) (m : Memory), BytesAt s.plat.endian s.mem (effectiveAddress base off) 8 old ∧
      Stored s.plat.endian s.mem m (effectiveAddress base off) 8 (f old v) ∧
      exec i s = .next (wroteMem s m)

/-- R55, R312, R313: the atomics with FETCH at 64 bits; with their frame. -/
def Obligations.AtomicFetch64Result : Prop :=
  ∀ (d r : RegIdx) (off : Off) (s : State) (base v : Word) (i : Instr) (f : BitVec 64 → BitVec 64 → BitVec 64),
    (i, f) ∈ ([(.atomicFetchAdd64 d r off, (· + ·)),
      (.atomicFetchOr64 d r off, (· ||| ·)),
      (.atomicFetchAnd64 d r off, (· &&& ·)),
      (.atomicFetchXor64 d r off, (· ^^^ ·)),
      (.xchg64 d r off, fun _ v => v)] :
      List (Instr × (BitVec 64 → BitVec 64 → BitVec 64))) →
    memoryWf s.mem = true → getReg s.regs d = .val base → getReg s.regs r = .val v →
    Admitted s (effectiveAddress base off) .dw .atomic →
    ∃ (old : BitVec 64) (m : Memory), BytesAt s.plat.endian s.mem (effectiveAddress base off) 8 old ∧
      Stored s.plat.endian s.mem m (effectiveAddress base off) 8 (f old v) ∧
      exec i s = .next { wroteMem s m with regs := putReg s.regs r (.val (old.setWidth 64)) }

/-- R328, R338: compare and exchange; with its frame. -/
def Obligations.CompareExchangeResult : Prop :=
  ∀ (d r : RegIdx) (off : Off) (s : State) (base v e : Word),
    memoryWf s.mem = true → getReg s.regs d = .val base → getReg s.regs r = .val v → getReg s.regs .r0 = .val e →
    (Admitted s (effectiveAddress base off) .w .atomic →
      ∃ (old : BitVec 32) (m : Memory), BytesAt s.plat.endian s.mem (effectiveAddress base off) 4 old ∧
        Stored s.plat.endian s.mem m (effectiveAddress base off) 4 (if old = e.setWidth 32 then v.setWidth 32 else old) ∧
        exec (.cmpxchg32 d r off) s = .next { wroteMem s m with regs := putReg s.regs .r0 (.val (old.setWidth 64)) }) ∧
    (Admitted s (effectiveAddress base off) .dw .atomic →
      ∃ (old : BitVec 64) (m : Memory), BytesAt s.plat.endian s.mem (effectiveAddress base off) 8 old ∧
        Stored s.plat.endian s.mem m (effectiveAddress base off) 8 (if old = e then v else old) ∧
        exec (.cmpxchg64 d r off) s = .next { wroteMem s m with regs := putReg s.regs .r0 (.val (old.setWidth 64)) })

/-- R46, R408, R411: the alignment fault of every memory instruction. -/
def Obligations.MisalignedAccessFaults : Prop :=
  ∀ (d r : RegIdx) (off : Off) (imm : Imm) (s : State) (base v e : Word),
    (∀ (i : Instr) (z : Size), (i, z) ∈ ([(.ldxb d r off, .b), (.ldxh d r off, .h), (.ldxw d r off, .w), (.ldxdw d r off, .dw),
      (.ldxsb d r off, .b), (.ldxsh d r off, .h), (.ldxsw d r off, .w)] : List (Instr × Size)) →
      getReg s.regs r = .val base → s.plat.strictAlign = true → (effectiveAddress base off).toNat % sizeBytes z ≠ 0 →
      exec i s = .next (stopped s (.misaligned (effectiveAddress base off) z .read))) ∧
    (∀ (i : Instr) (z : Size), (i, z) ∈ ([(.stb d off imm, .b), (.sth d off imm, .h), (.stw d off imm, .w), (.stdw d off imm, .dw)] : List (Instr × Size)) →
      getReg s.regs d = .val base → s.plat.strictAlign = true → (effectiveAddress base off).toNat % sizeBytes z ≠ 0 →
      exec i s = .next (stopped s (.misaligned (effectiveAddress base off) z .write))) ∧
    (∀ (i : Instr) (z : Size), (i, z) ∈ ([(.stxb d r off, .b), (.stxh d r off, .h), (.stxw d r off, .w), (.stxdw d r off, .dw)] : List (Instr × Size)) →
      getReg s.regs d = .val base → getReg s.regs r = .val v → s.plat.strictAlign = true → (effectiveAddress base off).toNat % sizeBytes z ≠ 0 →
      exec i s = .next (stopped s (.misaligned (effectiveAddress base off) z .write))) ∧
    (∀ (i : Instr) (z : Size), (i, z) ∈ ([(.atomicAdd32 d r off, .w), (.atomicFetchAdd32 d r off, .w), (.atomicOr32 d r off, .w),
      (.atomicFetchOr32 d r off, .w), (.atomicAnd32 d r off, .w), (.atomicFetchAnd32 d r off, .w),
      (.atomicXor32 d r off, .w), (.atomicFetchXor32 d r off, .w), (.xchg32 d r off, .w),
      (.atomicAdd64 d r off, .dw), (.atomicFetchAdd64 d r off, .dw),
      (.atomicOr64 d r off, .dw), (.atomicFetchOr64 d r off, .dw), (.atomicAnd64 d r off, .dw),
      (.atomicFetchAnd64 d r off, .dw), (.atomicXor64 d r off, .dw), (.atomicFetchXor64 d r off, .dw),
      (.xchg64 d r off, .dw)] : List (Instr × Size)) →
      getReg s.regs d = .val base → getReg s.regs r = .val v → (effectiveAddress base off).toNat % sizeBytes z ≠ 0 →
      exec i s = .next (stopped s (.misaligned (effectiveAddress base off) z .atomic))) ∧
    (∀ (i : Instr) (z : Size), (i, z) ∈ ([(.cmpxchg32 d r off, .w), (.cmpxchg64 d r off, .dw)] : List (Instr × Size)) →
      getReg s.regs d = .val base → getReg s.regs r = .val v → getReg s.regs .r0 = .val e → (effectiveAddress base off).toNat % sizeBytes z ≠ 0 →
      exec i s = .next (stopped s (.misaligned (effectiveAddress base off) z .atomic)))

/-- R49, R407, R411: the access fault of every memory instruction. -/
def Obligations.RefusedAccessFaults : Prop :=
  ∀ (d r : RegIdx) (off : Off) (imm : Imm) (s : State) (base v e : Word),
    (∀ (i : Instr) (z : Size), (i, z) ∈ ([(.ldxb d r off, .b), (.ldxh d r off, .h), (.ldxw d r off, .w), (.ldxdw d r off, .dw),
      (.ldxsb d r off, .b), (.ldxsh d r off, .h), (.ldxsw d r off, .w)] : List (Instr × Size)) →
      getReg s.regs r = .val base → (s.plat.strictAlign = true → (effectiveAddress base off).toNat % sizeBytes z = 0) →
      memOK s.plat (effectiveAddress base off) z .read = false →
      exec i s = .next (stopped s (.memFault (effectiveAddress base off) z .read))) ∧
    (∀ (i : Instr) (z : Size), (i, z) ∈ ([(.stb d off imm, .b), (.sth d off imm, .h), (.stw d off imm, .w), (.stdw d off imm, .dw)] : List (Instr × Size)) →
      getReg s.regs d = .val base → (s.plat.strictAlign = true → (effectiveAddress base off).toNat % sizeBytes z = 0) →
      memOK s.plat (effectiveAddress base off) z .write = false →
      exec i s = .next (stopped s (.memFault (effectiveAddress base off) z .write))) ∧
    (∀ (i : Instr) (z : Size), (i, z) ∈ ([(.stxb d r off, .b), (.stxh d r off, .h), (.stxw d r off, .w), (.stxdw d r off, .dw)] : List (Instr × Size)) →
      getReg s.regs d = .val base → getReg s.regs r = .val v → (s.plat.strictAlign = true → (effectiveAddress base off).toNat % sizeBytes z = 0) →
      memOK s.plat (effectiveAddress base off) z .write = false →
      exec i s = .next (stopped s (.memFault (effectiveAddress base off) z .write))) ∧
    (∀ (i : Instr) (z : Size), (i, z) ∈ ([(.atomicAdd32 d r off, .w), (.atomicFetchAdd32 d r off, .w), (.atomicOr32 d r off, .w),
      (.atomicFetchOr32 d r off, .w), (.atomicAnd32 d r off, .w), (.atomicFetchAnd32 d r off, .w),
      (.atomicXor32 d r off, .w), (.atomicFetchXor32 d r off, .w), (.xchg32 d r off, .w),
      (.atomicAdd64 d r off, .dw), (.atomicFetchAdd64 d r off, .dw),
      (.atomicOr64 d r off, .dw), (.atomicFetchOr64 d r off, .dw), (.atomicAnd64 d r off, .dw),
      (.atomicFetchAnd64 d r off, .dw), (.atomicXor64 d r off, .dw), (.atomicFetchXor64 d r off, .dw),
      (.xchg64 d r off, .dw)] : List (Instr × Size)) →
      getReg s.regs d = .val base → getReg s.regs r = .val v → (effectiveAddress base off).toNat % sizeBytes z = 0 →
      memOK s.plat (effectiveAddress base off) z .atomic = false →
      exec i s = .next (stopped s (.memFault (effectiveAddress base off) z .atomic))) ∧
    (∀ (i : Instr) (z : Size), (i, z) ∈ ([(.cmpxchg32 d r off, .w), (.cmpxchg64 d r off, .dw)] : List (Instr × Size)) →
      getReg s.regs d = .val base → getReg s.regs r = .val v → getReg s.regs .r0 = .val e → (effectiveAddress base off).toNat % sizeBytes z = 0 →
      memOK s.plat (effectiveAddress base off) z .atomic = false →
      exec i s = .next (stopped s (.memFault (effectiveAddress base off) z .atomic)))

/-- R24, R405, R411: reading an unwritten register. -/
def Obligations.UnwrittenRegisterFaults : Prop :=
  ∀ (d r : RegIdx) (off : Off) (imm : Imm) (s : State),
    (getReg s.regs d = .unwritten →
      ∀ i ∈ ([.add32K d imm, .add32X d r, .sub32K d imm, .sub32X d r, .mul32K d imm, .mul32X d r, .div32K d imm,
      .div32X d r, .sdiv32K d imm, .sdiv32X d r, .or32K d imm, .or32X d r, .and32K d imm, .and32X d r,
      .lsh32K d imm, .lsh32X d r, .rsh32K d imm, .rsh32X d r, .neg32 d, .mod32K d imm, .mod32X d r,
      .smod32K d imm, .smod32X d r, .xor32K d imm, .xor32X d r, .arsh32K d imm, .arsh32X d r,
      .add64K d imm, .add64X d r, .sub64K d imm, .sub64X d r, .mul64K d imm, .mul64X d r, .div64K d imm,
      .div64X d r, .sdiv64K d imm, .sdiv64X d r, .or64K d imm, .or64X d r, .and64K d imm, .and64X d r,
      .lsh64K d imm, .lsh64X d r, .rsh64K d imm, .rsh64X d r, .neg64 d, .mod64K d imm, .mod64X d r,
      .smod64K d imm, .smod64X d r, .xor64K d imm, .xor64X d r, .arsh64K d imm, .arsh64X d r, .le16 d,
      .le32 d, .le64 d, .be16 d, .be32 d, .be64 d, .bswap16 d, .bswap32 d, .bswap64 d, .jeq64K d off imm,
      .jeq64X d r off, .jgt64K d off imm, .jgt64X d r off, .jge64K d off imm, .jge64X d r off,
      .jset64K d off imm, .jset64X d r off, .jne64K d off imm, .jne64X d r off, .jsgt64K d off imm,
      .jsgt64X d r off, .jsge64K d off imm, .jsge64X d r off, .jlt64K d off imm, .jlt64X d r off,
      .jle64K d off imm, .jle64X d r off, .jslt64K d off imm, .jslt64X d r off, .jsle64K d off imm,
      .jsle64X d r off, .jeq32K d off imm, .jeq32X d r off, .jgt32K d off imm, .jgt32X d r off,
      .jge32K d off imm, .jge32X d r off, .jset32K d off imm, .jset32X d r off, .jne32K d off imm,
      .jne32X d r off, .jsgt32K d off imm, .jsgt32X d r off, .jsge32K d off imm, .jsge32X d r off,
      .jlt32K d off imm, .jlt32X d r off, .jle32K d off imm, .jle32X d r off, .jslt32K d off imm,
      .jslt32X d r off, .jsle32K d off imm, .jsle32X d r off, .stw d off imm, .sth d off imm,
      .stb d off imm, .stdw d off imm, .stxw d r off, .stxh d r off, .stxb d r off, .stxdw d r off,
      .atomicAdd32 d r off, .atomicFetchAdd32 d r off, .atomicOr32 d r off, .atomicFetchOr32 d r off,
      .atomicAnd32 d r off, .atomicFetchAnd32 d r off, .atomicXor32 d r off, .atomicFetchXor32 d r off,
      .xchg32 d r off, .cmpxchg32 d r off, .atomicAdd64 d r off, .atomicFetchAdd64 d r off,
      .atomicOr64 d r off, .atomicFetchOr64 d r off, .atomicAnd64 d r off, .atomicFetchAnd64 d r off,
      .atomicXor64 d r off, .atomicFetchXor64 d r off, .xchg64 d r off, .cmpxchg64 d r off] : List Instr),
        exec i s = .next (stopped s (.uninitRegister d))) ∧
    (∀ x, getReg s.regs d = .val x → getReg s.regs r = .unwritten →
      ∀ i ∈ ([.add32X d r, .sub32X d r, .mul32X d r, .div32X d r, .sdiv32X d r, .or32X d r, .and32X d r,
      .lsh32X d r, .rsh32X d r, .mod32X d r, .smod32X d r, .xor32X d r, .arsh32X d r, .add64X d r,
      .sub64X d r, .mul64X d r, .div64X d r, .sdiv64X d r, .or64X d r, .and64X d r, .lsh64X d r,
      .rsh64X d r, .mod64X d r, .smod64X d r, .xor64X d r, .arsh64X d r, .jeq64X d r off, .jgt64X d r off,
      .jge64X d r off, .jset64X d r off, .jne64X d r off, .jsgt64X d r off, .jsge64X d r off,
      .jlt64X d r off, .jle64X d r off, .jslt64X d r off, .jsle64X d r off, .jeq32X d r off,
      .jgt32X d r off, .jge32X d r off, .jset32X d r off, .jne32X d r off, .jsgt32X d r off,
      .jsge32X d r off, .jlt32X d r off, .jle32X d r off, .jslt32X d r off, .jsle32X d r off,
      .stxw d r off, .stxh d r off, .stxb d r off, .stxdw d r off, .atomicAdd32 d r off,
      .atomicFetchAdd32 d r off, .atomicOr32 d r off, .atomicFetchOr32 d r off, .atomicAnd32 d r off,
      .atomicFetchAnd32 d r off, .atomicXor32 d r off, .atomicFetchXor32 d r off, .xchg32 d r off,
      .cmpxchg32 d r off, .atomicAdd64 d r off, .atomicFetchAdd64 d r off, .atomicOr64 d r off,
      .atomicFetchOr64 d r off, .atomicAnd64 d r off, .atomicFetchAnd64 d r off, .atomicXor64 d r off,
      .atomicFetchXor64 d r off, .xchg64 d r off, .cmpxchg64 d r off] : List Instr),
        exec i s = .next (stopped s (.uninitRegister r))) ∧
    (getReg s.regs r = .unwritten →
      ∀ i ∈ ([.mov32X d r, .movsx32_8 d r, .movsx32_16 d r, .mov64X d r, .movsx64_8 d r, .movsx64_16 d r,
      .movsx64_32 d r, .ldxw d r off, .ldxh d r off, .ldxb d r off, .ldxdw d r off, .ldxsw d r off,
      .ldxsh d r off, .ldxsb d r off] : List Instr),
        exec i s = .next (stopped s (.uninitRegister r))) ∧
    (∀ x y, getReg s.regs d = .val x → getReg s.regs r = .val y → getReg s.regs .r0 = .unwritten →
      ∀ i ∈ ([.cmpxchg32 d r off, .cmpxchg64 d r off] : List Instr),
        exec i s = .next (stopped s (.uninitRegister .r0)))

/-- R340, R342 with decision D25. -/
def Obligations.LoadImmediate64Result : Prop :=
  ∀ (d : RegIdx) (imm nextImm : Imm) (s : State),
    exec (.lddwImm d imm nextImm) s = .next { s with
      regs := putReg s.regs d (.val ((nextImm.setWidth 64 <<< 32) ||| imm.setWidth 64))
      pc := s.pc + 2 }

/-- R340, R341, R343 to R348 with decision D36. -/
def Obligations.LoadLookupResult : Prop :=
  ∀ (d : RegIdx) (imm nextImm : Imm) (s : State),
    (∀ a, s.plat.mapByFd.lookup imm = some a →
      exec (.lddwMapFd d imm) s = .next { s with regs := putReg s.regs d (.val a), pc := s.pc + 2 }) ∧
    (∀ a, s.plat.mapByIdx.lookup imm = some a →
      exec (.lddwMapIdx d imm) s = .next { s with regs := putReg s.regs d (.val a), pc := s.pc + 2 }) ∧
    (∀ a, s.plat.varAddr.lookup imm = some a →
      exec (.lddwVar d imm) s = .next { s with regs := putReg s.regs d (.val a), pc := s.pc + 2 }) ∧
    (∀ a, s.plat.codeAddr.lookup (s.pc, imm) = some a →
      exec (.lddwCode d imm) s = .next { s with regs := putReg s.regs d (.val a), pc := s.pc + 2 }) ∧
    (∀ m a, s.plat.mapByFd.lookup imm = some m → s.plat.mapVal.lookup m = some a →
      exec (.lddwMapFdVal d imm nextImm) s = .next { s with
        regs := putReg s.regs d (.val (BitVec.ofNat 64 (a.toNat + nextImm.toNat)))
        pc := s.pc + 2 }) ∧
    (∀ m a, s.plat.mapByIdx.lookup imm = some m → s.plat.mapVal.lookup m = some a →
      exec (.lddwMapIdxVal d imm nextImm) s = .next { s with
        regs := putReg s.regs d (.val (BitVec.ofNat 64 (a.toNat + nextImm.toNat)))
        pc := s.pc + 2 })

/-- R341, R409, R411: the lookup faults. -/
def Obligations.LookupUndefinedFaults : Prop :=
  ∀ (d : RegIdx) (imm nextImm : Imm) (s : State),
    (s.plat.mapByFd.lookup imm = none →
      exec (.lddwMapFd d imm) s = .next (stopped s (.platformLookupFault .mapByFd (.imm imm)))) ∧
    (s.plat.mapByIdx.lookup imm = none →
      exec (.lddwMapIdx d imm) s = .next (stopped s (.platformLookupFault .mapByIdx (.imm imm)))) ∧
    (s.plat.varAddr.lookup imm = none →
      exec (.lddwVar d imm) s = .next (stopped s (.platformLookupFault .varAddr (.imm imm)))) ∧
    (s.plat.codeAddr.lookup (s.pc, imm) = none →
      exec (.lddwCode d imm) s = .next (stopped s (.platformLookupFault .codeAddr (.code s.pc imm)))) ∧
    (s.plat.mapByFd.lookup imm = none →
      exec (.lddwMapFdVal d imm nextImm) s = .next (stopped s (.platformLookupFault .mapByFd (.imm imm)))) ∧
    (∀ m, s.plat.mapByFd.lookup imm = some m → s.plat.mapVal.lookup m = none →
      exec (.lddwMapFdVal d imm nextImm) s = .next (stopped s (.platformLookupFault .mapVal (.map m)))) ∧
    (s.plat.mapByIdx.lookup imm = none →
      exec (.lddwMapIdxVal d imm nextImm) s = .next (stopped s (.platformLookupFault .mapByIdx (.imm imm)))) ∧
    (∀ m, s.plat.mapByIdx.lookup imm = some m → s.plat.mapVal.lookup m = none →
      exec (.lddwMapIdxVal d imm nextImm) s = .next (stopped s (.platformLookupFault .mapVal (.map m))))

/-- R361: the packet instructions without their group, and R406: the fault of a second slot reached by pc. Two points are
the model's and not the rules': that the packet instructions are refused by name where packet is in GROUPS (DEDUCED:
notes/assumptions/15.md), and that the second slot, which R349 calls no instruction, is a constructor with a meaning
(DESIGN CHOICE: notes/assumptions/16.md). -/
def Obligations.PacketAndSecondSlotStop : Prop :=
  ∀ (r : RegIdx) (imm : Imm) (s : State) (i : Instr) (name : String),
    (i, name) ∈ ([(.ldabsw imm, "LDABSW"), (.ldabsh imm, "LDABSH"), (.ldabsb imm, "LDABSB"),
      (.ldindw r imm, "LDINDW"), (.ldindh r imm, "LDINDH"), (.ldindb r imm, "LDINDB")] : List (Instr × String)) →
    (.packet ∉ s.plat.groups → exec i s = .next (stopped s (.illegalInstruction s.pc))) ∧
    (.packet ∈ s.plat.groups → exec i s = .refused (.packetSemantics name)) ∧
    exec (.imm64SecondSlot imm) s = .next (stopped s (.illegalInstruction s.pc))

/-- R71 to R77, R84, R85: no bit of an encoding is dropped. -/
def Obligations.DecodeOfEncode : Prop :=
  ∀ (e : Endian) (gs : List Group) (i : Instr) (after : Option Slot), i.wf = true → supports gs i.group = true →
    ∃ first rest, encode e i = first :: rest ∧ decode e gs first (rest.head?.or after) = .ok i

/-- R85, R87, R88 with decisions D7, D8, D35: strict decoding; two encodings never mean one instruction. -/
def Obligations.DecodeIsStrict : Prop :=
  ∀ (e : Endian) (gs : List Group) (slot : Slot) (next : Option Slot) (i : Instr),
    decode e gs slot next = .ok i →
    i.wf = true ∧ supports gs i.group = true ∧
      (encode e i = [slot] ∨ ∃ second, next = some second ∧ encode e i = [slot, second])

/-- R86: length determination; R406: opcode 0x00 is never the start of an instruction. -/
def Obligations.DecodeLengthByOpcode : Prop :=
  ∀ (e : Endian) (gs : List Group) (slot : Slot) (next : Option Slot),
    (∀ i, decode e gs slot next = .ok i →
      (encode e i).length = if slot.extractLsb' 0 8 = 0x18 then 2 else 1) ∧
    (slot.extractLsb' 0 8 = 0x00 → decode e gs slot next = .error .reservedOpcode)

/-- The encoding examples of R71, R73, R105, R183, R207, R262, R285, R328, R342 and R365. -/
def Obligations.DecodeOfWrittenWords : Prop :=
  decode .little allGroups (slotOfBytes 0x07 0x01 0x00 0x00 0x44 0x33 0x22 0x11) none = .ok (.add64K .r1 0x11223344) ∧
  decode .big allGroups (slotOfBytes 0x07 0x10 0x00 0x00 0x11 0x22 0x33 0x44) none = .ok (.add64K .r1 0x11223344) ∧
  decode .little allGroups (slotOfBytes 0x04 0x01 0x00 0x00 0x01 0x00 0x00 0x00) none = .ok (.add32K .r1 1) ∧
  decode .big allGroups (slotOfBytes 0xd4 0x10 0x00 0x00 0x00 0x00 0x00 0x10) none = .ok (.le16 .r1) ∧
  decode .little allGroups (slotOfBytes 0x15 0x01 0x03 0x00 0xff 0xff 0xff 0xff) none
    = .ok (.jeq64K .r1 3 0xffffffff) ∧
  decode .little allGroups (slotOfBytes 0x85 0x10 0x00 0x00 0xfd 0xff 0xff 0xff) none = .ok (.callLocal 0xfffffffd) ∧
  decode .little allGroups (slotOfBytes 0x61 0x21 0x04 0x00 0x00 0x00 0x00 0x00) none = .ok (.ldxw .r1 .r2 4) ∧
  decode .little allGroups (slotOfBytes 0xc3 0x21 0x00 0x00 0xf1 0x00 0x00 0x00) none = .ok (.cmpxchg32 .r1 .r2 0) ∧
  decode .little allGroups (slotOfBytes 0x18 0x01 0x00 0x00 0xef 0xcd 0xab 0x89)
    (some (slotOfBytes 0x00 0x00 0x00 0x00 0x67 0x45 0x23 0x01)) = .ok (.lddwImm .r1 0x89abcdef 0x01234567) ∧
  decode .little allGroups (slotOfBytes 0x40 0x20 0x00 0x00 0x0e 0x00 0x00 0x00) none = .ok (.ldindw .r2 14)

/-- R2, R3, R85 step 6: the supported groups; R93: the group of every instruction, row by row. -/
def Obligations.SupportedGroupsClosed : Prop :=
  (∀ (gs : List Group),
    (∀ g, supports gs g = true ↔
      g = .base32 ∨ g ∈ gs ∨
        ∃ h ∈ gs, (h, g) ∈ ([(.base64, .base32), (.atomic64, .atomic32), (.divmul64, .divmul32)] :
          List (Group × Group))) ∧
    ∀ (e : Endian) (slot : Slot) (next : Option Slot) (i : Instr), decode e allGroups slot next = .ok i →
      supports gs i.group = false → decode e gs slot next = .error .unsupportedGroup) ∧
  ∀ (d r : RegIdx) (off : Off) (imm nextImm : Imm),
    (∀ i ∈ ([.add32K d imm, .add32X d r, .sub32K d imm, .sub32X d r, .or32K d imm, .or32X d r, .and32K d imm,
        .and32X d r, .lsh32K d imm, .lsh32X d r, .rsh32K d imm, .rsh32X d r, .neg32 d, .xor32K d imm,
        .xor32X d r, .mov32K d imm, .mov32X d r, .movsx32_8 d r, .movsx32_16 d r, .arsh32K d imm,
        .arsh32X d r, .le16 d, .le32 d, .be16 d, .be32 d, .bswap16 d, .bswap32 d, .ja off, .ja32 imm,
        .jeq32K d off imm, .jeq32X d r off, .jgt32K d off imm, .jgt32X d r off, .jge32K d off imm,
        .jge32X d r off, .jset32K d off imm, .jset32X d r off, .jne32K d off imm, .jne32X d r off,
        .jsgt32K d off imm, .jsgt32X d r off, .jsge32K d off imm, .jsge32X d r off, .jlt32K d off imm,
        .jlt32X d r off, .jle32K d off imm, .jle32X d r off, .jslt32K d off imm, .jslt32X d r off,
        .jsle32K d off imm, .jsle32X d r off, .callHelper imm, .callLocal imm, .callBtf imm, .exit,
        .ldxw d r off, .ldxh d r off, .ldxb d r off, .stw d off imm, .sth d off imm, .stb d off imm,
        .stxw d r off, .stxh d r off, .stxb d r off, .ldxsw d r off, .ldxsh d r off, .ldxsb d r off] : List Instr),
      i.group = .base32) ∧
    (∀ i ∈ ([.add64K d imm, .add64X d r, .sub64K d imm, .sub64X d r, .or64K d imm, .or64X d r, .and64K d imm,
        .and64X d r, .lsh64K d imm, .lsh64X d r, .rsh64K d imm, .rsh64X d r, .neg64 d, .xor64K d imm,
        .xor64X d r, .mov64K d imm, .mov64X d r, .movsx64_8 d r, .movsx64_16 d r, .movsx64_32 d r,
        .arsh64K d imm, .arsh64X d r, .le64 d, .be64 d, .bswap64 d, .jeq64K d off imm, .jeq64X d r off,
        .jgt64K d off imm, .jgt64X d r off, .jge64K d off imm, .jge64X d r off, .jset64K d off imm,
        .jset64X d r off, .jne64K d off imm, .jne64X d r off, .jsgt64K d off imm, .jsgt64X d r off,
        .jsge64K d off imm, .jsge64X d r off, .jlt64K d off imm, .jlt64X d r off, .jle64K d off imm,
        .jle64X d r off, .jslt64K d off imm, .jslt64X d r off, .jsle64K d off imm, .jsle64X d r off,
        .ldxdw d r off, .stdw d off imm, .stxdw d r off, .lddwImm d imm nextImm, .lddwMapFd d imm,
        .lddwMapFdVal d imm nextImm, .lddwVar d imm, .lddwCode d imm, .lddwMapIdx d imm,
        .lddwMapIdxVal d imm nextImm, .imm64SecondSlot nextImm] : List Instr),
      i.group = .base64) ∧
    (∀ i ∈ ([.atomicAdd32 d r off, .atomicFetchAdd32 d r off, .atomicOr32 d r off, .atomicFetchOr32 d r off,
        .atomicAnd32 d r off, .atomicFetchAnd32 d r off, .atomicXor32 d r off,
        .atomicFetchXor32 d r off, .xchg32 d r off, .cmpxchg32 d r off] : List Instr),
      i.group = .atomic32) ∧
    (∀ i ∈ ([.atomicAdd64 d r off, .atomicFetchAdd64 d r off, .atomicOr64 d r off, .atomicFetchOr64 d r off,
        .atomicAnd64 d r off, .atomicFetchAnd64 d r off, .atomicXor64 d r off,
        .atomicFetchXor64 d r off, .xchg64 d r off, .cmpxchg64 d r off] : List Instr),
      i.group = .atomic64) ∧
    (∀ i ∈ ([.mul32K d imm, .mul32X d r, .div32K d imm, .div32X d r, .sdiv32K d imm, .sdiv32X d r, .mod32K d imm,
        .mod32X d r, .smod32K d imm, .smod32X d r] : List Instr),
      i.group = .divmul32) ∧
    (∀ i ∈ ([.mul64K d imm, .mul64X d r, .div64K d imm, .div64X d r, .sdiv64K d imm, .sdiv64X d r, .mod64K d imm,
        .mod64X d r, .smod64K d imm, .smod64X d r] : List Instr),
      i.group = .divmul64) ∧
    (∀ i ∈ ([.ldabsw imm, .ldabsh imm, .ldabsb imm, .ldindw r imm, .ldindh r imm, .ldindb r imm] : List Instr),
      i.group = .packet)

/-- R26, R53, R85, R452: the step; the ENV tape is the model's form of the relation ENV (notes/assumptions/10.md). -/
def Obligations.StepRunsDecodedInstruction : Prop :=
  ∀ (s : State) (slot : Slot) (i : Instr), s.st = .running → 0 ≤ s.pc → s.prog[s.pc.toNat]? = some slot →
    decode s.plat.endian s.plat.groups slot s.prog[s.pc.toNat + 1]? = .ok i →
    step s = exec i (envTick s) ∧ (s.env = [] → step s = exec i s)

/-- R404: the fetch range check. That ENV fires once before it (R53) is the model's form of the relation ENV (DESIGN CHOICE:
notes/assumptions/10.md). -/
def Obligations.FetchOutsideProgramFaults : Prop :=
  (∀ (s : State), s.st = .running → (s.pc < 0 ∨ (s.prog.length : Int) ≤ s.pc) →
    step s = .next (stopped (envTick s) (.pcOutOfRange s.pc))) ∧
  (∀ (s : State), s.st = .running → s.prog = [] →
    step s = .next (stopped (envTick s) (.pcOutOfRange s.pc))) ∧
  (∀ (s : State) (imm : Imm), exec (.ja32 imm) s = .next (wentTo s (s.pc + 1 + imm.toInt)))

/-- R403, R406 with decisions D7, D10. That ENV fires once before the fetch (R53) is the model's form of the relation ENV
(DESIGN CHOICE: notes/assumptions/10.md). -/
def Obligations.IllegalSlotFaults : Prop :=
  ∀ (s : State) (slot : Slot), s.st = .running → 0 ≤ s.pc → s.prog[s.pc.toNat]? = some slot →
    (∀ why, decode s.plat.endian s.plat.groups slot s.prog[s.pc.toNat + 1]? = .error why →
      step s = .next (stopped (envTick s) (.illegalInstruction s.pc))) ∧
    (slot.extractLsb' 0 8 = 0x00 → step s = .next (stopped (envTick s) (.illegalInstruction s.pc)))

/-- R264, R401: no further step exists. -/
def Obligations.NoStepAfterTheEnd : Prop :=
  ∀ (s : State),
    (s.st = .exited → step s = .fault .runExited) ∧
    (∀ c p, s.st = .faulted c p → step s = .fault .runFaulted) ∧
    (s.st = .running → ∀ f, step s ≠ .fault f)

/-- R401, R412: faults are precise, over all instructions. -/
def Obligations.FaultsArePrecise : Prop :=
  ∀ (i : Instr) (s t : State), s.st = .running → exec i s = .next t →
    ∀ c p, t.st = .faulted c p → p = s.pc ∧ t = stopped s c

/-- R264, R420: EXIT with an empty call stack is the only way a run ends without a fault. -/
def Obligations.OnlyExitEndsRun : Prop :=
  ∀ (i : Instr) (s t : State), s.st = .running → exec i s = .next t → t.st = .exited →
    i = .exit ∧ s.cs = [] ∧ t = { s with st := .exited }

/-- R33, R40, R47, R78, R261, R263: what can change memory and the call stack. The clauses on `replies`, `freeCount` and
`env` speak of the model's own reply tape, counter of free values and ENV tape (DESIGN CHOICE: notes/assumptions/9.md,
11.md and 10.md), which no rule names. -/
def Obligations.OnlyStoresAndCallsChangeMemoryOrStack : Prop :=
  ∀ (i : Instr) (s t : State), exec i s = .next t →
    (t.mem ≠ s.mem →
      (encodeFields i).opcode &&& 7 = 2 ∨ (encodeFields i).opcode &&& 7 = 3 ∨
        (∃ id, i = .callHelper id) ∨ ∃ id, i = .callBtf id) ∧
    (t.cs ≠ s.cs → i = .exit ∨ ∃ imm, i = .callLocal imm) ∧
    ((t.replies ≠ s.replies ∨ t.freeCount ≠ s.freeCount) → (∃ id, i = .callHelper id) ∨ ∃ id, i = .callBtf id) ∧
    t.env = s.env

/-- R33, R40, R262, R409: the invariant of the model over every step from every state that meets it; the canonical form of memory is the model's choice (notes/assumptions/5.md). -/
def Obligations.InvariantKeptByStep : Prop :=
  ∀ (s t : State), StateInv s → step s = .next t → StateInv t

/-- R37, R450: the entry state; reset is its instance with the parameters of log entries 1 to 12. The canonical form of
memory and the input tapes are the model's (notes/assumptions/5.md, 9.md and 10.md). -/
def Obligations.InvariantAtEntry : Prop :=
  StateInv State.reset ∧
  ∀ (p : Platform) (prog : List Slot) (x : RegFile) (m : Memory) (env : List (List (Word × Byte)))
    (replies : List HelperReply), memoryWf m = true → StateInv (State.entry p prog x m env replies)

/-- R37, R450: the state at entry. ENV and HELPERS stay open at entry; the tapes that stand for them and the counter of free
values are the model's (DESIGN CHOICE: notes/assumptions/9.md, 10.md and 11.md). -/
def Obligations.EntryState : Prop :=
  (∀ (p : Platform) (prog : List Slot) (x : RegFile) (m : Memory) (env : List (List (Word × Byte)))
      (replies : List HelperReply),
    (State.entry p prog x m env replies).pc = 0 ∧ (State.entry p prog x m env replies).cs = [] ∧
    (State.entry p prog x m env replies).st = .running ∧
    (∀ i, getReg (State.entry p prog x m env replies).regs i = getReg x i) ∧
    (State.entry p prog x m env replies).prog = prog ∧ (State.entry p prog x m env replies).mem = m ∧
    (State.entry p prog x m env replies).plat = p ∧ (State.entry p prog x m env replies).env = env ∧
    (State.entry p prog x m env replies).replies = replies ∧ (State.entry p prog x m env replies).freeCount = 0) ∧
  ∃ p prog x m env replies, State.reset = State.entry p prog x m env replies

/-- R32, R58, R454: the program text is fixed for the whole run; R36: the platform functions are. -/
def Obligations.ProgramAndParametersFixed : Prop :=
  ∀ (s t : State), step s = .next t → t.prog = s.prog ∧ t.plat = s.plat

/-- R53, R418: what other agents change and what they cannot. That ENV is a tape of byte writes, one entry used up by each
firing, and that writes to unshared bytes are dropped, is the model's form of the relation ENV (DESIGN CHOICE:
notes/assumptions/10.md). -/
def Obligations.EnvChangesOnlySharedBytes : Prop :=
  ∀ (s : State), memoryWf s.mem = true →
    (∀ a : Word, isShared s.plat a = false → readByte (envTick s).mem a.toNat = readByte s.mem a.toNat) ∧
    (∀ (before later : List (Word × Byte)) (rest : List (List (Word × Byte))) (a : Word) (b : Byte),
      s.env = (before ++ (a, b) :: later) :: rest → (∀ w ∈ later, w.1 ≠ a) → isShared s.plat a = true →
      readByte (envTick s).mem a.toNat = b) ∧
    (∀ (ws : List (Word × Byte)) (rest : List (List (Word × Byte))) (a : Word),
      s.env = ws :: rest → (∀ w ∈ ws, w.1 ≠ a) →
      readByte (envTick s).mem a.toNat = readByte s.mem a.toNat) ∧
    (s.env = [] → envTick s = s) ∧
    { envTick s with mem := s.mem, env := s.env } = s ∧ (envTick s).env = s.env.tail

/-- R40, R45: memory is an array of bytes; the canonical form (notes/assumptions/5.md) loses nothing and adds nothing. -/
def Obligations.CanonicalMemoryUnique : Prop :=
  ∀ (m m' : Memory), memoryWf m = true → memoryWf m' = true →
    (∀ a, a < 2 ^ 64 → readByte m a = readByte m' a) → m = m'

/-- R11: the definition of sign extension, at result width 64, the one the machine's registers have. -/
def Obligations.SignExtensionDefinition : Prop :=
  ∀ (n : Nat) (v : BitVec n) (i : Nat), i < 64 → 0 < n → n ≤ 64 →
    (sext64 v).getLsbD i = if i < n then v.getLsbD i else v.getLsbD (n - 1)
end

