-- ==== Sys2Proof/Laws/Encoding.lean ====
section
/-! SUPPORT. The bit layouts are inverse to each other: fields and canonical word, canonical word and slot,
register and field. -/
namespace Sys2Proof

/-- The fields read from a word are the fields it was built of (R76). -/
theorem fieldsOf_wordOf (f : Fields) : fieldsOf (wordOf f) = f := by
  rcases f with ⟨o, d, s, off, imm⟩
  simp only [fieldsOf, wordOf, Fields.mk.injEq]
  refine ⟨?_, ?_, ?_, ?_, ?_⟩ <;>
    (ext i hi; simp; try grind)

/-- A word is built of the fields read from it (R76). -/
theorem wordOf_fieldsOf (w : InsnWord) : wordOf (fieldsOf w) = w := by
  ext i hi
  simp [fieldsOf, wordOf]
  grind

/-- The bytes of a slot are the bytes it was built of (R71). -/
theorem slotByte_slotOfBytes (b0 b1 b2 b3 b4 b5 b6 b7 : Byte) :
    slotByte (slotOfBytes b0 b1 b2 b3 b4 b5 b6 b7) 0 = b0 ∧ slotByte (slotOfBytes b0 b1 b2 b3 b4 b5 b6 b7) 1 = b1 ∧
    slotByte (slotOfBytes b0 b1 b2 b3 b4 b5 b6 b7) 2 = b2 ∧ slotByte (slotOfBytes b0 b1 b2 b3 b4 b5 b6 b7) 3 = b3 ∧
    slotByte (slotOfBytes b0 b1 b2 b3 b4 b5 b6 b7) 4 = b4 ∧ slotByte (slotOfBytes b0 b1 b2 b3 b4 b5 b6 b7) 5 = b5 ∧
    slotByte (slotOfBytes b0 b1 b2 b3 b4 b5 b6 b7) 6 = b6 ∧
    slotByte (slotOfBytes b0 b1 b2 b3 b4 b5 b6 b7) 7 = b7 := by
  refine ⟨?_, ?_, ?_, ?_, ?_, ?_, ?_, ?_⟩ <;>
    (ext i hi; simp [slotByte, slotOfBytes]; try grind)

/-- A slot is built of its bytes (R71). -/
theorem slotOfBytes_slotByte (s : Slot) :
    slotOfBytes (slotByte s 0) (slotByte s 1) (slotByte s 2) (slotByte s 3) (slotByte s 4) (slotByte s 5)
      (slotByte s 6) (slotByte s 7) = s := by
  ext i hi
  simp [slotByte, slotOfBytes]
  grind

theorem join16_bytes (v : BitVec 16) : join16 (v.extractLsb' (8 * 0) 8) (v.extractLsb' (8 * 1) 8) = v := by
  ext i hi
  simp [join16]
  grind

theorem join32_bytes (v : BitVec 32) :
    join32 (v.extractLsb' (8 * 0) 8) (v.extractLsb' (8 * 1) 8) (v.extractLsb' (8 * 2) 8) (v.extractLsb' (8 * 3) 8)
      = v := by
  ext i hi
  simp [join32]
  grind

theorem bytes_join16 (lo hi : Byte) :
    (join16 lo hi).extractLsb' (8 * 0) 8 = lo ∧ (join16 lo hi).extractLsb' (8 * 1) 8 = hi := by
  refine ⟨?_, ?_⟩ <;> (ext i h; simp [join16]; try grind)

theorem bytes_join32 (b0 b1 b2 b3 : Byte) :
    (join32 b0 b1 b2 b3).extractLsb' (8 * 0) 8 = b0 ∧ (join32 b0 b1 b2 b3).extractLsb' (8 * 1) 8 = b1 ∧
    (join32 b0 b1 b2 b3).extractLsb' (8 * 2) 8 = b2 ∧ (join32 b0 b1 b2 b3).extractLsb' (8 * 3) 8 = b3 := by
  refine ⟨?_, ?_, ?_, ?_⟩ <;> (ext i h; simp [join32]; try grind)

theorem nibbles_join (lo hi : BitVec 4) :
    (joinNibbles lo hi).extractLsb' 0 4 = lo ∧ (joinNibbles lo hi).extractLsb' 4 4 = hi := by
  refine ⟨?_, ?_⟩ <;> (ext i h; simp [joinNibbles]; try grind)

theorem joinNibbles_nibbles (b : Byte) : joinNibbles (b.extractLsb' 0 4) (b.extractLsb' 4 4) = b := by
  ext i hi
  simp [joinNibbles]
  grind

/-- The canonical word of the slot a word was laid out in is that word, under both byte orders (R59, R76). -/
theorem wordOfSlot_slotOfWord (e : Endian) (w : InsnWord) : wordOfSlot e (slotOfWord e w) = w := by
  have h (b0 b1 b2 b3 b4 b5 b6 b7 : Byte) := slotByte_slotOfBytes b0 b1 b2 b3 b4 b5 b6 b7
  cases e <;>
    simp only [wordOfSlot, slotOfWord, h, nibbles_join, join16_bytes, join32_bytes] <;>
    exact wordOf_fieldsOf w

/-- The slot of the canonical word of a slot is that slot (R59, R76). -/
theorem slotOfWord_wordOfSlot (e : Endian) (s : Slot) : slotOfWord e (wordOfSlot e s) = s := by
  cases e <;>
    simp only [wordOfSlot, slotOfWord, fieldsOf_wordOf, bytes_join16, bytes_join32, joinNibbles_nibbles] <;>
    exact slotOfBytes_slotByte s

/-- A register's field names that register (R20). -/
@[simp] theorem regOfField_fieldOfReg (r : RegIdx) : regOfField (fieldOfReg r) = some r := by
  cases r <;> rfl

/-- A field that names a register is that register's field (R88). -/
theorem fieldOfReg_of_regOfField {v : BitVec 4} {r : RegIdx} (h : regOfField v = some r) : fieldOfReg r = v := by
  revert v r
  decide

end Sys2Proof
end

