-- ==== Sys2Proof/Laws/State.lean ====
section
/-! SUPPORT. What each update of the state leaves in each field: one lemma per field per update. -/
namespace Sys2Proof.Machine

/-! ### `setReg` -/

@[simp] theorem setReg_regs (s : State) (i : RegIdx) (v : Word) :
    (setReg s i v).regs = putReg s.regs i (.val v) := rfl

@[simp] theorem setReg_pc (s : State) (i : RegIdx) (v : Word) :
    (setReg s i v).pc = s.pc := rfl

@[simp] theorem setReg_cs (s : State) (i : RegIdx) (v : Word) :
    (setReg s i v).cs = s.cs := rfl

@[simp] theorem setReg_st (s : State) (i : RegIdx) (v : Word) :
    (setReg s i v).st = s.st := rfl

@[simp] theorem setReg_mem (s : State) (i : RegIdx) (v : Word) :
    (setReg s i v).mem = s.mem := rfl

@[simp] theorem setReg_prog (s : State) (i : RegIdx) (v : Word) :
    (setReg s i v).prog = s.prog := rfl

@[simp] theorem setReg_plat (s : State) (i : RegIdx) (v : Word) :
    (setReg s i v).plat = s.plat := rfl

@[simp] theorem setReg_env (s : State) (i : RegIdx) (v : Word) :
    (setReg s i v).env = s.env := rfl

@[simp] theorem setReg_replies (s : State) (i : RegIdx) (v : Word) :
    (setReg s i v).replies = s.replies := rfl

@[simp] theorem setReg_freeCount (s : State) (i : RegIdx) (v : Word) :
    (setReg s i v).freeCount = s.freeCount := rfl

/-! ### `jumpTo` -/

@[simp] theorem jumpTo_regs (s : State) (t : Int) :
    (jumpTo s t).regs = s.regs := rfl

@[simp] theorem jumpTo_pc (s : State) (t : Int) :
    (jumpTo s t).pc = t := rfl

@[simp] theorem jumpTo_cs (s : State) (t : Int) :
    (jumpTo s t).cs = s.cs := rfl

@[simp] theorem jumpTo_st (s : State) (t : Int) :
    (jumpTo s t).st = s.st := rfl

@[simp] theorem jumpTo_mem (s : State) (t : Int) :
    (jumpTo s t).mem = s.mem := rfl

@[simp] theorem jumpTo_prog (s : State) (t : Int) :
    (jumpTo s t).prog = s.prog := rfl

@[simp] theorem jumpTo_plat (s : State) (t : Int) :
    (jumpTo s t).plat = s.plat := rfl

@[simp] theorem jumpTo_env (s : State) (t : Int) :
    (jumpTo s t).env = s.env := rfl

@[simp] theorem jumpTo_replies (s : State) (t : Int) :
    (jumpTo s t).replies = s.replies := rfl

@[simp] theorem jumpTo_freeCount (s : State) (t : Int) :
    (jumpTo s t).freeCount = s.freeCount := rfl

/-! ### `advance` -/

@[simp] theorem advance_regs (s : State) :
    (advance s).regs = s.regs := rfl

@[simp] theorem advance_pc (s : State) :
    (advance s).pc = s.pc + 1 := rfl

@[simp] theorem advance_cs (s : State) :
    (advance s).cs = s.cs := rfl

@[simp] theorem advance_st (s : State) :
    (advance s).st = s.st := rfl

@[simp] theorem advance_mem (s : State) :
    (advance s).mem = s.mem := rfl

@[simp] theorem advance_prog (s : State) :
    (advance s).prog = s.prog := rfl

@[simp] theorem advance_plat (s : State) :
    (advance s).plat = s.plat := rfl

@[simp] theorem advance_env (s : State) :
    (advance s).env = s.env := rfl

@[simp] theorem advance_replies (s : State) :
    (advance s).replies = s.replies := rfl

@[simp] theorem advance_freeCount (s : State) :
    (advance s).freeCount = s.freeCount := rfl

/-! ### `raise` -/

@[simp] theorem raise_regs (c : Cause) (s : State) :
    (raise c s).regs = s.regs := rfl

@[simp] theorem raise_pc (c : Cause) (s : State) :
    (raise c s).pc = s.pc := rfl

@[simp] theorem raise_cs (c : Cause) (s : State) :
    (raise c s).cs = s.cs := rfl

@[simp] theorem raise_st (c : Cause) (s : State) :
    (raise c s).st = .faulted c s.pc := rfl

@[simp] theorem raise_mem (c : Cause) (s : State) :
    (raise c s).mem = s.mem := rfl

@[simp] theorem raise_prog (c : Cause) (s : State) :
    (raise c s).prog = s.prog := rfl

@[simp] theorem raise_plat (c : Cause) (s : State) :
    (raise c s).plat = s.plat := rfl

@[simp] theorem raise_env (c : Cause) (s : State) :
    (raise c s).env = s.env := rfl

@[simp] theorem raise_replies (c : Cause) (s : State) :
    (raise c s).replies = s.replies := rfl

@[simp] theorem raise_freeCount (c : Cause) (s : State) :
    (raise c s).freeCount = s.freeCount := rfl

/-! ### `endRun` -/

@[simp] theorem endRun_regs (s : State) :
    (endRun s).regs = s.regs := rfl

@[simp] theorem endRun_pc (s : State) :
    (endRun s).pc = s.pc := rfl

@[simp] theorem endRun_cs (s : State) :
    (endRun s).cs = s.cs := rfl

@[simp] theorem endRun_st (s : State) :
    (endRun s).st = .exited := rfl

@[simp] theorem endRun_mem (s : State) :
    (endRun s).mem = s.mem := rfl

@[simp] theorem endRun_prog (s : State) :
    (endRun s).prog = s.prog := rfl

@[simp] theorem endRun_plat (s : State) :
    (endRun s).plat = s.plat := rfl

@[simp] theorem endRun_env (s : State) :
    (endRun s).env = s.env := rfl

@[simp] theorem endRun_replies (s : State) :
    (endRun s).replies = s.replies := rfl

@[simp] theorem endRun_freeCount (s : State) :
    (endRun s).freeCount = s.freeCount := rfl

/-! ### `setMem` -/

@[simp] theorem setMem_regs (s : State) (m : Memory) :
    (setMem s m).regs = s.regs := rfl

@[simp] theorem setMem_pc (s : State) (m : Memory) :
    (setMem s m).pc = s.pc := rfl

@[simp] theorem setMem_cs (s : State) (m : Memory) :
    (setMem s m).cs = s.cs := rfl

@[simp] theorem setMem_st (s : State) (m : Memory) :
    (setMem s m).st = s.st := rfl

@[simp] theorem setMem_mem (s : State) (m : Memory) :
    (setMem s m).mem = m := rfl

@[simp] theorem setMem_prog (s : State) (m : Memory) :
    (setMem s m).prog = s.prog := rfl

@[simp] theorem setMem_plat (s : State) (m : Memory) :
    (setMem s m).plat = s.plat := rfl

@[simp] theorem setMem_env (s : State) (m : Memory) :
    (setMem s m).env = s.env := rfl

@[simp] theorem setMem_replies (s : State) (m : Memory) :
    (setMem s m).replies = s.replies := rfl

@[simp] theorem setMem_freeCount (s : State) (m : Memory) :
    (setMem s m).freeCount = s.freeCount := rfl

/-! ### `pushFrame` -/

@[simp] theorem pushFrame_regs (s : State) (ret : Int) :
    (pushFrame s ret).regs = s.regs := rfl

@[simp] theorem pushFrame_pc (s : State) (ret : Int) :
    (pushFrame s ret).pc = s.pc := rfl

@[simp] theorem pushFrame_cs (s : State) (ret : Int) :
    (pushFrame s ret).cs = makeFrame s ret :: s.cs := rfl

@[simp] theorem pushFrame_st (s : State) (ret : Int) :
    (pushFrame s ret).st = s.st := rfl

@[simp] theorem pushFrame_mem (s : State) (ret : Int) :
    (pushFrame s ret).mem = s.mem := rfl

@[simp] theorem pushFrame_prog (s : State) (ret : Int) :
    (pushFrame s ret).prog = s.prog := rfl

@[simp] theorem pushFrame_plat (s : State) (ret : Int) :
    (pushFrame s ret).plat = s.plat := rfl

@[simp] theorem pushFrame_env (s : State) (ret : Int) :
    (pushFrame s ret).env = s.env := rfl

@[simp] theorem pushFrame_replies (s : State) (ret : Int) :
    (pushFrame s ret).replies = s.replies := rfl

@[simp] theorem pushFrame_freeCount (s : State) (ret : Int) :
    (pushFrame s ret).freeCount = s.freeCount := rfl

/-! ### `popFrame` -/

@[simp] theorem popFrame_regs (s : State) (f : Frame) (rest : List Frame) :
    (popFrame s f rest).regs = returnRegs s f := rfl

@[simp] theorem popFrame_pc (s : State) (f : Frame) (rest : List Frame) :
    (popFrame s f rest).pc = s.pc := rfl

@[simp] theorem popFrame_cs (s : State) (f : Frame) (rest : List Frame) :
    (popFrame s f rest).cs = rest := rfl

@[simp] theorem popFrame_st (s : State) (f : Frame) (rest : List Frame) :
    (popFrame s f rest).st = s.st := rfl

@[simp] theorem popFrame_mem (s : State) (f : Frame) (rest : List Frame) :
    (popFrame s f rest).mem = s.mem := rfl

@[simp] theorem popFrame_prog (s : State) (f : Frame) (rest : List Frame) :
    (popFrame s f rest).prog = s.prog := rfl

@[simp] theorem popFrame_plat (s : State) (f : Frame) (rest : List Frame) :
    (popFrame s f rest).plat = s.plat := rfl

@[simp] theorem popFrame_env (s : State) (f : Frame) (rest : List Frame) :
    (popFrame s f rest).env = s.env := rfl

@[simp] theorem popFrame_replies (s : State) (f : Frame) (rest : List Frame) :
    (popFrame s f rest).replies = s.replies := rfl

@[simp] theorem popFrame_freeCount (s : State) (f : Frame) (rest : List Frame) :
    (popFrame s f rest).freeCount = s.freeCount := rfl

/-! ### `helperDone` -/

@[simp] theorem helperDone_regs (s : State) (x : RegFile) (ws : List (Word × Byte)) :
    (helperDone s x ws).regs = x := rfl

@[simp] theorem helperDone_pc (s : State) (x : RegFile) (ws : List (Word × Byte)) :
    (helperDone s x ws).pc = s.pc := rfl

@[simp] theorem helperDone_cs (s : State) (x : RegFile) (ws : List (Word × Byte)) :
    (helperDone s x ws).cs = s.cs := rfl

@[simp] theorem helperDone_st (s : State) (x : RegFile) (ws : List (Word × Byte)) :
    (helperDone s x ws).st = s.st := rfl

@[simp] theorem helperDone_mem (s : State) (x : RegFile) (ws : List (Word × Byte)) :
    (helperDone s x ws).mem = writeList s.mem ws := rfl

@[simp] theorem helperDone_prog (s : State) (x : RegFile) (ws : List (Word × Byte)) :
    (helperDone s x ws).prog = s.prog := rfl

@[simp] theorem helperDone_plat (s : State) (x : RegFile) (ws : List (Word × Byte)) :
    (helperDone s x ws).plat = s.plat := rfl

@[simp] theorem helperDone_env (s : State) (x : RegFile) (ws : List (Word × Byte)) :
    (helperDone s x ws).env = s.env := rfl

@[simp] theorem helperDone_replies (s : State) (x : RegFile) (ws : List (Word × Byte)) :
    (helperDone s x ws).replies = s.replies.tail := rfl

@[simp] theorem helperDone_freeCount (s : State) (x : RegFile) (ws : List (Word × Byte)) :
    (helperDone s x ws).freeCount = s.freeCount + 1 := rfl

/-! ### `envTick` -/

@[simp] theorem envTick_regs (s : State) : (envTick s).regs = s.regs := by
  unfold envTick; split <;> rfl

@[simp] theorem envTick_pc (s : State) : (envTick s).pc = s.pc := by
  unfold envTick; split <;> rfl

@[simp] theorem envTick_cs (s : State) : (envTick s).cs = s.cs := by
  unfold envTick; split <;> rfl

@[simp] theorem envTick_st (s : State) : (envTick s).st = s.st := by
  unfold envTick; split <;> rfl

@[simp] theorem envTick_prog (s : State) : (envTick s).prog = s.prog := by
  unfold envTick; split <;> rfl

@[simp] theorem envTick_plat (s : State) : (envTick s).plat = s.plat := by
  unfold envTick; split <;> rfl

@[simp] theorem envTick_replies (s : State) : (envTick s).replies = s.replies := by
  unfold envTick; split <;> rfl

@[simp] theorem envTick_freeCount (s : State) : (envTick s).freeCount = s.freeCount := by
  unfold envTick; split <;> rfl

@[simp] theorem envTick_env (s : State) : (envTick s).env = s.env.tail := by
  unfold envTick; split <;> simp_all

/-- With the tape of `ENV` empty a tick changes nothing (R53). -/
theorem envTick_of_empty (s : State) (h : s.env = []) : envTick s = s := by
  unfold envTick; simp [h]

/-! ### The register file -/

/-- Reading a register after a write: the written register gives what was written, every other is as before
(R13, R22). -/
theorem getReg_putReg (x : RegFile) (i j : RegIdx) (r : Reg) :
    getReg (putReg x i r) j = if j = i then r else getReg x j := by
  cases i <;> cases j <;> rfl

@[simp] theorem getReg_putReg_self (x : RegFile) (i : RegIdx) (r : Reg) : getReg (putReg x i r) i = r := by
  simp [getReg_putReg]

theorem getReg_putReg_of_ne (x : RegFile) (i j : RegIdx) (r : Reg) (h : j ≠ i) :
    getReg (putReg x i r) j = getReg x j := by
  simp [getReg_putReg, h]

end Sys2Proof.Machine
end

