-- ==== Sys2Proof/Laws/Memory.lean ====
section
/-! SUPPORT. The laws of data memory: every operation keeps the canonical form, a byte read after a write is the
byte written or the byte that was there (R43 to R45). -/
namespace Sys2Proof.Machine

theorem memoryWfFrom_cons (lo : Nat) (c : Host.Cell) (m : Memory) :
    memoryWfFrom lo (c :: m) = true ↔
      lo ≤ c.1 ∧ c.1 < 2 ^ 64 ∧ c.2 ≠ Config.unlistedByte ∧ memoryWfFrom (c.1 + 1) m = true := by
  simp [memoryWfFrom, and_assoc]

/-- A canonical list is canonical from every lower bound. -/
theorem memoryWfFrom_mono {lo lo' : Nat} (h : lo' ≤ lo) {m : Memory} (hm : memoryWfFrom lo m = true) :
    memoryWfFrom lo' m = true := by
  cases m with
  | nil => rfl
  | cons c m =>
    rw [memoryWfFrom_cons] at hm ⊢
    exact ⟨by omega, hm.2⟩

/-- An address below every listed one reads as the unlisted byte. -/
theorem readByte_of_lt {lo : Nat} {m : Memory} (hm : memoryWfFrom lo m = true) {a : Nat} (h : a < lo) :
    readByte m a = Config.unlistedByte := by
  induction m generalizing lo with
  | nil => rfl
  | cons c m ih =>
    rw [memoryWfFrom_cons] at hm
    have : c.1 ≠ a := by omega
    simp only [readByte, this, if_false]
    exact ih hm.2.2.2 (by omega)

theorem memoryWfFrom_consCell {lo a : Nat} {b : Byte} {m : Memory} (hlo : lo ≤ a) (ha : a < 2 ^ 64)
    (hm : memoryWfFrom (a + 1) m = true) : memoryWfFrom lo (consCell a b m) = true := by
  unfold consCell
  split
  · exact memoryWfFrom_mono (by omega) hm
  · rename_i hb
    rw [memoryWfFrom_cons]
    exact ⟨hlo, ha, hb, hm⟩

theorem memoryWfFrom_writeByte {lo a : Nat} {b : Byte} {m : Memory} (hlo : lo ≤ a) (ha : a < 2 ^ 64)
    (hm : memoryWfFrom lo m = true) : memoryWfFrom lo (writeByte m a b) = true := by
  induction m generalizing lo with
  | nil => exact memoryWfFrom_consCell hlo ha rfl
  | cons c m ih =>
    have hc := (memoryWfFrom_cons _ _ _).1 hm
    unfold writeByte
    split
    · refine memoryWfFrom_consCell hlo ha ((memoryWfFrom_cons _ _ _).2 ⟨by omega, hc.2⟩)
    · split
      · rename_i h
        exact memoryWfFrom_consCell hlo ha (h ▸ hc.2.2.2)
      · rw [memoryWfFrom_cons]
        exact ⟨hc.1, hc.2.1, hc.2.2.1, ih (by omega) hc.2.2.2⟩

/-- Writing a byte keeps the canonical form. -/
theorem memoryWf_writeByte {m : Memory} (hm : memoryWf m = true) {a : Nat} (ha : a < 2 ^ 64) (b : Byte) :
    memoryWf (writeByte m a b) = true :=
  memoryWfFrom_writeByte (Nat.zero_le a) ha hm

/-- Writing bytes at consecutive addresses keeps the canonical form. -/
theorem memoryWf_writeBytes {m : Memory} (hm : memoryWf m = true) (a : Word) (bs : List Byte) :
    memoryWf (writeBytes m a bs) = true := by
  induction bs generalizing m a with
  | nil => exact hm
  | cons b bs ih => exact ih (memoryWf_writeByte hm a.isLt b) (a + 1)

/-- Storing a value keeps the canonical form. -/
theorem memoryWf_storeValue {m : Memory} (hm : memoryWf m = true) (e : Endian) (a : Word) (z : Size)
    (v : BitVec (sizeBits z)) : memoryWf (storeValue e m a z v) = true :=
  memoryWf_writeBytes hm a _

/-- Writing single bytes one after another keeps the canonical form. -/
theorem memoryWf_writeList {m : Memory} (hm : memoryWf m = true) (ws : List (Word × Byte)) :
    memoryWf (writeList m ws) = true := by
  induction ws generalizing m with
  | nil => exact hm
  | cons w ws ih => exact ih (memoryWf_writeByte hm w.1.isLt w.2)

/-- A firing of `ENV` keeps the canonical form. -/
theorem memoryWf_envTick {s : State} (hm : memoryWf s.mem = true) : memoryWf (envTick s).mem = true := by
  unfold envTick
  split
  · exact hm
  · exact memoryWf_writeList hm _

/-- The memory at reset has the canonical form. -/
theorem memoryWf_reset : memoryWf State.reset.mem = true := rfl

theorem readByte_consCell_self {a : Nat} {b : Byte} {m : Memory} (hm : memoryWfFrom (a + 1) m = true) :
    readByte (consCell a b m) a = b := by
  unfold consCell
  split
  · rename_i h
    rw [readByte_of_lt hm (Nat.lt_succ_self a), h]
  · simp [readByte]

theorem readByte_consCell_of_ne {a a' : Nat} {b : Byte} {m : Memory} (h : a' ≠ a) :
    readByte (consCell a b m) a' = readByte m a' := by
  unfold consCell
  split
  · rfl
  · simp [readByte, Ne.symm h]

theorem readByte_writeByte_from {lo a a' : Nat} {b : Byte} {m : Memory} (hm : memoryWfFrom lo m = true) :
    readByte (writeByte m a b) a' = if a' = a then b else readByte m a' := by
  induction m generalizing lo with
  | nil =>
    unfold writeByte
    split
    · subst a'; exact readByte_consCell_self (m := []) rfl
    · rename_i h; exact readByte_consCell_of_ne h
  | cons c m ih =>
    have hc := (memoryWfFrom_cons _ _ _).1 hm
    unfold writeByte
    split
    · rename_i hlt
      split
      · subst a'; exact readByte_consCell_self ((memoryWfFrom_cons _ _ _).2 ⟨by omega, hc.2⟩)
      · rename_i h; exact readByte_consCell_of_ne h
    · split
      · rename_i heq
        split
        · subst a'; exact readByte_consCell_self (heq ▸ hc.2.2.2)
        · rename_i h
          rw [readByte_consCell_of_ne h]
          have : c.1 ≠ a' := fun h' => h (h' ▸ heq.symm)
          simp [readByte, this]
      · by_cases h : c.1 = a'
        · have : a' ≠ a := by omega
          simp [readByte, h, this]
        · simp [readByte, h, ih hc.2.2.2]

/-- A byte read after a byte is written: the byte written at that address, any other as before (R43, R44). -/
theorem readByte_writeByte {m : Memory} (hm : memoryWf m = true) (a a' : Nat) (b : Byte) :
    readByte (writeByte m a b) a' = if a' = a then b else readByte m a' :=
  readByte_writeByte_from hm

/-- A byte that no entry of the list names reads as before. -/
theorem readByte_writeList_of_not_mem {ws : List (Word × Byte)} {a : Word} (h : ∀ w ∈ ws, w.1 ≠ a) {m : Memory}
    (hm : memoryWf m = true) : readByte (writeList m ws) a.toNat = readByte m a.toNat := by
  induction ws generalizing m with
  | nil => rfl
  | cons w ws ih =>
    have hne : a.toNat ≠ w.1.toNat := fun e => h w (by simp) (BitVec.eq_of_toNat_eq e.symm)
    rw [writeList, ih (fun x hx => h x (by simp [hx])) (memoryWf_writeByte hm w.1.isLt w.2), readByte_writeByte hm,
      if_neg hne]

/-- A byte reads as the last write to it in the list. -/
theorem readByte_writeList_of_last {later : List (Word × Byte)} {a : Word} (h : ∀ w ∈ later, w.1 ≠ a) (b : Byte)
    (before : List (Word × Byte)) {m : Memory} (hm : memoryWf m = true) :
    readByte (writeList m (before ++ (a, b) :: later)) a.toNat = b := by
  induction before generalizing m with
  | nil =>
    simp only [List.nil_append, writeList]
    rw [readByte_writeList_of_not_mem h (memoryWf_writeByte hm a.isLt b), readByte_writeByte hm, if_pos rfl]
  | cons w ws ih => exact ih (memoryWf_writeByte hm w.1.isLt w.2)

end Sys2Proof.Machine
end

