-- ==== Sys2Proof/Laws/Ops.lean ====
section
/-! SUPPORT. For each shared operation of the machine one lemma that says once everything it can do; callers cite
these and do not unfold the operation. -/
namespace Sys2Proof.Machine

/-! ## Register reads and faults -/

theorem readReg_of_val {i : RegIdx} {s : State} {k : Word → State} {v : Word} (h : getReg s.regs i = .val v) :
    readReg i s k = k v := by
  simp [readReg, h]

theorem readReg_of_unwritten {i : RegIdx} {s : State} {k : Word → State} (h : getReg s.regs i = .unwritten) :
    readReg i s k = raise (.uninitRegister i) s := by
  simp [readReg, h]

/-- A register read goes on with the value, or raises `UninitRegister` (R24). -/
theorem readReg_cases (i : RegIdx) (s : State) (k : Word → State) :
    (∃ v, getReg s.regs i = .val v ∧ readReg i s k = k v) ∨
      (getReg s.regs i = .unwritten ∧ readReg i s k = raise (.uninitRegister i) s) := by
  cases h : getReg s.regs i with
  | val v => exact .inl ⟨v, rfl, readReg_of_val h⟩
  | unwritten => exact .inr ⟨rfl, readReg_of_unwritten h⟩

@[simp] theorem orRaise_ok {α : Type} (v : α) (s : State) (k : α → State) : orRaise (.ok v) s k = k v := rfl

@[simp] theorem orRaise_error {α : Type} (c : Cause) (s : State) (k : α → State) :
    orRaise (.error c) s k = raise c s := rfl

/-- An operation's result is used, or its fault is raised. -/
theorem orRaise_cases {α : Type} (r : Except Cause α) (s : State) (k : α → State) :
    (∃ v, r = .ok v ∧ orRaise r s k = k v) ∨ (∃ c, r = .error c ∧ orRaise r s k = raise c s) := by
  cases r with
  | ok v => exact .inl ⟨v, rfl, rfl⟩
  | error c => exact .inr ⟨c, rfl, rfl⟩

/-! ## Access checks -/

/-- The alignment check passes: the address is a multiple of the size, or the access is a plain one and
`STRICT_ALIGN` is off (R46). -/
theorem checkAccess_of_aligned {p : Platform} {a : Word} {z : Size} {k : AccessKind}
    (h : a.toNat % sizeBytes z = 0 ∨ (k ≠ .atomic ∧ p.strictAlign = false)) :
    checkAccess p a z k = if memOK p a z k then .ok () else .error (.memFault a z k) := by
  unfold checkAccess
  rw [if_neg]
  rintro ⟨h1, h2⟩
  rcases h with h | ⟨h, h'⟩
  · exact h2 h
  · simp [h, h'] at h1

theorem checkAccess_of_misaligned {p : Platform} {a : Word} {z : Size} {k : AccessKind}
    (h : k = .atomic ∨ p.strictAlign = true) (h' : a.toNat % sizeBytes z ≠ 0) :
    checkAccess p a z k = .error (.misaligned a z k) := by
  unfold checkAccess
  rw [if_pos ⟨h, h'⟩]

/-- Everything an access check can answer (R411 steps 5 and 6). -/
theorem checkAccess_cases (p : Platform) (a : Word) (z : Size) (k : AccessKind) :
    (checkAccess p a z k = .ok () ∧ memOK p a z k = true ∧
        ((k = .atomic ∨ p.strictAlign = true) → a.toNat % sizeBytes z = 0)) ∨
      checkAccess p a z k = .error (.misaligned a z k) ∨ checkAccess p a z k = .error (.memFault a z k) := by
  unfold checkAccess
  split
  · exact .inr (.inl rfl)
  · rename_i h
    split
    · rename_i h'
      exact .inl ⟨rfl, h', fun hk => Classical.byContradiction fun hn => h ⟨hk, hn⟩⟩
    · exact .inr (.inr rfl)

/-- Everything `MemRead` can answer (R43). -/
theorem memRead_cases (s : State) (a : Word) (z : Size) :
    (checkAccess s.plat a z .read = .ok () ∧ memRead s a z = .ok (loadValue s.plat.endian s.mem a z)) ∨
      ∃ c, checkAccess s.plat a z .read = .error c ∧ memRead s a z = .error c := by
  unfold memRead
  split
  · rename_i c h; exact .inr ⟨c, h, rfl⟩
  · rename_i h; exact .inl ⟨h, rfl⟩

/-- Everything `MemWrite` can answer (R44). -/
theorem memWrite_cases (s : State) (a : Word) (z : Size) (v : BitVec (sizeBits z)) :
    (checkAccess s.plat a z .write = .ok () ∧
        memWrite s a z v = .ok (setMem s (storeValue s.plat.endian s.mem a z v))) ∨
      ∃ c, checkAccess s.plat a z .write = .error c ∧ memWrite s a z v = .error c := by
  unfold memWrite
  split
  · rename_i c h; exact .inr ⟨c, h, rfl⟩
  · rename_i h; exact .inl ⟨h, rfl⟩

/-- Everything `AtomicRMW` can answer (R55). -/
theorem atomicRMW_cases (s : State) (a : Word) (z : Size) (f : BitVec (sizeBits z) → BitVec (sizeBits z)) :
    (checkAccess s.plat a z .atomic = .ok () ∧
        atomicRMW s a z f = .ok (loadValue s.plat.endian s.mem a z,
          setMem s (storeValue s.plat.endian s.mem a z (f (loadValue s.plat.endian s.mem a z))))) ∨
      ∃ c, checkAccess s.plat a z .atomic = .error c ∧ atomicRMW s a z f = .error c := by
  unfold atomicRMW
  split
  · rename_i c h; exact .inr ⟨c, h, rfl⟩
  · rename_i h; exact .inl ⟨h, rfl⟩

/-! ## The shared shapes of the families -/

/-- An operation that reads one register and then writes one, moving `pc` on: what it can do. -/
theorem readReg_write_cases (i d : RegIdx) (s : State) (f : Word → Word) :
    (∃ x, getReg s.regs i = .val x ∧
        (readReg i s fun x => advance (setReg s d (f x))) = advance (setReg s d (f x))) ∨
      (readReg i s fun x => advance (setReg s d (f x))) = raise (.uninitRegister i) s := by
  rcases readReg_cases i s (fun x => advance (setReg s d (f x))) with ⟨v, hv, h⟩ | ⟨_, h⟩
  · exact .inl ⟨v, hv, h⟩
  · exact .inr h

/-- Class ALU with an immediate: the result is written, or the destination was unwritten (R101, R405). -/
theorem alu32K_cases (f : BitVec 32 → BitVec 32 → BitVec 32) (d : RegIdx) (imm : Imm) (s : State) :
    (∃ x, getReg s.regs d = .val x ∧ alu32K f d imm s = advance (setReg s d (zext64 (f (low32 x) imm)))) ∨
      alu32K f d imm s = raise (.uninitRegister d) s :=
  readReg_write_cases d d s fun x => zext64 (f (low32 x) imm)

/-- Class ALU64 with an immediate (R140, R141, R405). -/
theorem alu64K_cases (f : Word → Word → Word) (d : RegIdx) (imm : Imm) (s : State) :
    (∃ x, getReg s.regs d = .val x ∧ alu64K f d imm s = advance (setReg s d (f x (sext64 imm)))) ∨
      alu64K f d imm s = raise (.uninitRegister d) s :=
  readReg_write_cases d d s fun x => f x (sext64 imm)

/-- Class ALU with a register: the result, or the first unwritten register in the order `d`, `s` (R411). -/
theorem alu32X_cases (f : BitVec 32 → BitVec 32 → BitVec 32) (d r : RegIdx) (s : State) :
    (∃ x y, getReg s.regs d = .val x ∧ getReg s.regs r = .val y ∧
        alu32X f d r s = advance (setReg s d (zext64 (f (low32 x) (low32 y))))) ∨
      ∃ i, (i = d ∨ i = r) ∧ alu32X f d r s = raise (.uninitRegister i) s := by
  unfold alu32X
  rcases readReg_cases d s _ with ⟨x, hx, h⟩ | ⟨_, h⟩
  · rw [h]
    rcases readReg_cases r s _ with ⟨y, hy, h⟩ | ⟨_, h⟩
    · exact .inl ⟨x, y, hx, hy, h⟩
    · exact .inr ⟨r, .inr rfl, h⟩
  · exact .inr ⟨d, .inl rfl, h⟩

/-- Class ALU64 with a register (R411). -/
theorem alu64X_cases (f : Word → Word → Word) (d r : RegIdx) (s : State) :
    (∃ x y, getReg s.regs d = .val x ∧ getReg s.regs r = .val y ∧
        alu64X f d r s = advance (setReg s d (f x y))) ∨
      ∃ i, (i = d ∨ i = r) ∧ alu64X f d r s = raise (.uninitRegister i) s := by
  unfold alu64X
  rcases readReg_cases d s _ with ⟨x, hx, h⟩ | ⟨_, h⟩
  · rw [h]
    rcases readReg_cases r s _ with ⟨y, hy, h⟩ | ⟨_, h⟩
    · exact .inl ⟨x, y, hx, hy, h⟩
    · exact .inr ⟨r, .inr rfl, h⟩
  · exact .inr ⟨d, .inl rfl, h⟩

/-- The destination alone, class ALU (R123). -/
theorem alu32D_cases (f : BitVec 32 → BitVec 32) (d : RegIdx) (s : State) :
    (∃ x, getReg s.regs d = .val x ∧ alu32D f d s = advance (setReg s d (zext64 (f (low32 x))))) ∨
      alu32D f d s = raise (.uninitRegister d) s :=
  readReg_write_cases d d s fun x => zext64 (f (low32 x))

/-- The destination alone, class ALU64 (R162). -/
theorem alu64D_cases (f : Word → Word) (d : RegIdx) (s : State) :
    (∃ x, getReg s.regs d = .val x ∧ alu64D f d s = advance (setReg s d (f x))) ∨
      alu64D f d s = raise (.uninitRegister d) s :=
  readReg_write_cases d d s f

/-- Moves from a register: the source is read, the destination only written (R131, R132). -/
theorem mov32X_cases (d r : RegIdx) (s : State) :
    (∃ y, getReg s.regs r = .val y ∧ mov32X d r s = advance (setReg s d (zext64 (low32 y)))) ∨
      mov32X d r s = raise (.uninitRegister r) s :=
  readReg_write_cases r d s fun y => zext64 (low32 y)

theorem mov64X_cases (d r : RegIdx) (s : State) :
    (∃ y, getReg s.regs r = .val y ∧ mov64X d r s = advance (setReg s d y)) ∨
      mov64X d r s = raise (.uninitRegister r) s :=
  readReg_write_cases r d s fun y => y

theorem movsx32_cases (bits : Nat) (d r : RegIdx) (s : State) :
    (∃ y, getReg s.regs r = .val y ∧
        movsx32 bits d r s = advance (setReg s d (zext64 (signExtendLow bits 32 y)))) ∨
      movsx32 bits d r s = raise (.uninitRegister r) s :=
  readReg_write_cases r d s fun y => zext64 (signExtendLow bits 32 y)

theorem movsx64_cases (bits : Nat) (d r : RegIdx) (s : State) :
    (∃ y, getReg s.regs r = .val y ∧ movsx64 bits d r s = advance (setReg s d (signExtendLow bits 64 y))) ∨
      movsx64 bits d r s = raise (.uninitRegister r) s :=
  readReg_write_cases r d s fun y => signExtendLow bits 64 y

/-- A byte swap: the result is written, or the register was unwritten (R181). -/
theorem byteSwap_cases (k : Nat) (f : Endian → (j : Nat) → BitVec (8 * k) → BitVec (8 * k)) (d : RegIdx) (s : State) :
    (∃ x, getReg s.regs d = .val x ∧
        byteSwap k f d s = advance (setReg s d (zext64 (f s.plat.endian k (x.setWidth (8 * k)))))) ∨
      byteSwap k f d s = raise (.uninitRegister d) s :=
  readReg_write_cases d d s fun x => zext64 (f s.plat.endian k (x.setWidth (8 * k)))

/-- A conditional jump with an immediate: `pc` alone changes, or the register was unwritten (R201, R405). -/
theorem jump64K_cases (cond : Word → Word → Bool) (d : RegIdx) (off : Off) (imm : Imm) (s : State) :
    (∃ a, getReg s.regs d = .val a ∧ jump64K cond d off imm s = branch (cond a (sext64 imm)) off s) ∨
      jump64K cond d off imm s = raise (.uninitRegister d) s := by
  unfold jump64K
  rcases readReg_cases d s _ with ⟨x, hx, h⟩ | ⟨_, h⟩
  · exact .inl ⟨x, hx, h⟩
  · exact .inr h

theorem jump32K_cases (cond : BitVec 32 → BitVec 32 → Bool) (d : RegIdx) (off : Off) (imm : Imm) (s : State) :
    (∃ a, getReg s.regs d = .val a ∧ jump32K cond d off imm s = branch (cond (low32 a) imm) off s) ∨
      jump32K cond d off imm s = raise (.uninitRegister d) s := by
  unfold jump32K
  rcases readReg_cases d s _ with ⟨x, hx, h⟩ | ⟨_, h⟩
  · exact .inl ⟨x, hx, h⟩
  · exact .inr h

/-- A conditional jump with a register (R201, R405, R411). -/
theorem jump64X_cases (cond : Word → Word → Bool) (d r : RegIdx) (off : Off) (s : State) :
    (∃ a b, getReg s.regs d = .val a ∧ getReg s.regs r = .val b ∧
        jump64X cond d r off s = branch (cond a b) off s) ∨
      ∃ i, (i = d ∨ i = r) ∧ jump64X cond d r off s = raise (.uninitRegister i) s := by
  unfold jump64X
  rcases readReg_cases d s _ with ⟨x, hx, h⟩ | ⟨_, h⟩
  · rw [h]
    rcases readReg_cases r s _ with ⟨y, hy, h⟩ | ⟨_, h⟩
    · exact .inl ⟨x, y, hx, hy, h⟩
    · exact .inr ⟨r, .inr rfl, h⟩
  · exact .inr ⟨d, .inl rfl, h⟩

theorem jump32X_cases (cond : BitVec 32 → BitVec 32 → Bool) (d r : RegIdx) (off : Off) (s : State) :
    (∃ a b, getReg s.regs d = .val a ∧ getReg s.regs r = .val b ∧
        jump32X cond d r off s = branch (cond (low32 a) (low32 b)) off s) ∨
      ∃ i, (i = d ∨ i = r) ∧ jump32X cond d r off s = raise (.uninitRegister i) s := by
  unfold jump32X
  rcases readReg_cases d s _ with ⟨x, hx, h⟩ | ⟨_, h⟩
  · rw [h]
    rcases readReg_cases r s _ with ⟨y, hy, h⟩ | ⟨_, h⟩
    · exact .inl ⟨x, y, hx, hy, h⟩
    · exact .inr ⟨r, .inr rfl, h⟩
  · exact .inr ⟨d, .inl rfl, h⟩

/-- A helper call: unknown, refused, or done (R261, R263). -/
theorem callHelper_cases (kind : HelperKind) (id : Imm) (s : State) :
    ((kind, id) ∉ s.plat.helpers ∧ callHelper kind id s = raise (.unknownHelper kind id) s) ∨
      ((kind, id) ∈ s.plat.helpers ∧ nextReply s kind id = .fault ∧
        callHelper kind id s = raise (.helperFault kind id) s) ∨
      ∃ x ws, (kind, id) ∈ s.plat.helpers ∧ nextReply s kind id = .done x ws ∧
        callHelper kind id s = advance (helperDone s x ws) := by
  unfold callHelper
  split
  · rename_i hm
    split
    · rename_i h; exact .inr (.inl ⟨hm, h, rfl⟩)
    · rename_i x ws h; exact .inr (.inr ⟨x, ws, hm, h, rfl⟩)
  · rename_i hm; exact .inl ⟨hm, rfl⟩

/-- A program-local call: the stack is full, or the frame is pushed and the target taken (R262). -/
theorem callLocal_cases (imm : Imm) (s : State) :
    (callStackFull s = true ∧ callLocal imm s = raise (.callDepthExceeded s.pc) s) ∨
      (callStackFull s = false ∧ callLocal imm s = jumpTo (pushFrame s (s.pc + 1)) (immTarget s.pc imm)) := by
  unfold callLocal
  cases h : callStackFull s <;> simp

/-- EXIT: the run ends, or the newest frame is popped (R264). -/
theorem exitOp_cases (s : State) :
    (s.cs = [] ∧ exitOp s = endRun s) ∨
      ∃ f rest, s.cs = f :: rest ∧ exitOp s = jumpTo (popFrame s f rest) f.ret := by
  unfold exitOp
  cases h : s.cs with
  | nil => exact .inl ⟨rfl, rfl⟩
  | cons f rest => exact .inr ⟨f, rest, rfl, rfl⟩

/-- A load: the value is written to the destination, or a fault is raised (R280 to R282). -/
theorem load_cases (z : Size) (ext : BitVec (sizeBits z) → Word) (d r : RegIdx) (off : Off) (s : State) :
    (∃ base, getReg s.regs r = .val base ∧ checkAccess s.plat (effectiveAddress base off) z .read = .ok () ∧
        load z ext d r off s =
          advance (setReg s d (ext (loadValue s.plat.endian s.mem (effectiveAddress base off) z)))) ∨
      ∃ c, load z ext d r off s = raise c s := by
  unfold load
  rcases readReg_cases r s _ with ⟨x, hx, h⟩ | ⟨_, h⟩
  · rw [h]
    rcases memRead_cases s (effectiveAddress x off) z with ⟨hc, hr⟩ | ⟨c, _, hr⟩
    · exact .inl ⟨x, hx, hc, by rw [hr]; rfl⟩
    · exact .inr ⟨c, by rw [hr]; rfl⟩
  · exact .inr ⟨_, h⟩

/-- A store of an immediate: the bytes are written, or a fault is raised (R283). -/
theorem storeImmediate_cases (z : Size) (d : RegIdx) (off : Off) (imm : Imm) (s : State) :
    (∃ base, getReg s.regs d = .val base ∧ checkAccess s.plat (effectiveAddress base off) z .write = .ok () ∧
        storeImmediate z d off imm s =
          advance (setMem s (storeValue s.plat.endian s.mem (effectiveAddress base off) z (storeImm z imm)))) ∨
      ∃ c, storeImmediate z d off imm s = raise c s := by
  unfold storeImmediate
  rcases readReg_cases d s _ with ⟨x, hx, h⟩ | ⟨_, h⟩
  · rw [h]
    rcases memWrite_cases s (effectiveAddress x off) z (storeImm z imm) with ⟨hc, hr⟩ | ⟨c, _, hr⟩
    · exact .inl ⟨x, hx, hc, by rw [hr]; rfl⟩
    · exact .inr ⟨c, by rw [hr]; rfl⟩
  · exact .inr ⟨_, h⟩

/-- A store of a register (R284). -/
theorem storeRegister_cases (z : Size) (d r : RegIdx) (off : Off) (s : State) :
    (∃ base v, getReg s.regs d = .val base ∧ getReg s.regs r = .val v ∧
        checkAccess s.plat (effectiveAddress base off) z .write = .ok () ∧
        storeRegister z d r off s =
          advance (setMem s (storeValue s.plat.endian s.mem (effectiveAddress base off) z (lowBits z v)))) ∨
      ∃ c, storeRegister z d r off s = raise c s := by
  unfold storeRegister
  rcases readReg_cases d s _ with ⟨x, hx, h⟩ | ⟨_, h⟩
  · rw [h]
    rcases readReg_cases r s _ with ⟨y, hy, h⟩ | ⟨_, h⟩
    · rw [h]
      rcases memWrite_cases s (effectiveAddress x off) z (lowBits z y) with ⟨hc, hr⟩ | ⟨c, _, hr⟩
      · exact .inl ⟨x, y, hx, hy, hc, by rw [hr]; rfl⟩
      · exact .inr ⟨c, by rw [hr]; rfl⟩
    · exact .inr ⟨_, h⟩
  · exact .inr ⟨_, h⟩

/-- A simple atomic: the new value is written, or a fault is raised (R314). -/
theorem atomicOnly_cases (z : Size) (f : BitVec (sizeBits z) → BitVec (sizeBits z) → BitVec (sizeBits z))
    (d r : RegIdx) (off : Off) (s : State) :
    (∃ base v, getReg s.regs d = .val base ∧ getReg s.regs r = .val v ∧
        checkAccess s.plat (effectiveAddress base off) z .atomic = .ok () ∧
        atomicOnly z f d r off s =
          advance (setMem s (storeValue s.plat.endian s.mem (effectiveAddress base off) z
            (f (loadValue s.plat.endian s.mem (effectiveAddress base off) z) (lowBits z v))))) ∨
      ∃ c, atomicOnly z f d r off s = raise c s := by
  unfold atomicOnly
  rcases readReg_cases d s _ with ⟨x, hx, h⟩ | ⟨_, h⟩
  · rw [h]
    rcases readReg_cases r s _ with ⟨y, hy, h⟩ | ⟨_, h⟩
    · rw [h]
      rcases atomicRMW_cases s (effectiveAddress x off) z (fun old => f old (lowBits z y)) with
        ⟨hc, hr⟩ | ⟨c, _, hr⟩
      · exact .inl ⟨x, y, hx, hy, hc, by rw [hr]; rfl⟩
      · exact .inr ⟨c, by rw [hr]; rfl⟩
    · exact .inr ⟨_, h⟩
  · exact .inr ⟨_, h⟩

/-- An atomic with FETCH: besides, the source register receives the old value (R312, R313). -/
theorem atomicFetch_cases (z : Size) (f : BitVec (sizeBits z) → BitVec (sizeBits z) → BitVec (sizeBits z))
    (d r : RegIdx) (off : Off) (s : State) :
    (∃ base v, getReg s.regs d = .val base ∧ getReg s.regs r = .val v ∧
        checkAccess s.plat (effectiveAddress base off) z .atomic = .ok () ∧
        atomicFetch z f d r off s =
          advance (setReg (setMem s (storeValue s.plat.endian s.mem (effectiveAddress base off) z
            (f (loadValue s.plat.endian s.mem (effectiveAddress base off) z) (lowBits z v)))) r
            (zext64 (loadValue s.plat.endian s.mem (effectiveAddress base off) z)))) ∨
      ∃ c, atomicFetch z f d r off s = raise c s := by
  unfold atomicFetch
  rcases readReg_cases d s _ with ⟨x, hx, h⟩ | ⟨_, h⟩
  · rw [h]
    rcases readReg_cases r s _ with ⟨y, hy, h⟩ | ⟨_, h⟩
    · rw [h]
      rcases atomicRMW_cases s (effectiveAddress x off) z (fun old => f old (lowBits z y)) with
        ⟨hc, hr⟩ | ⟨c, _, hr⟩
      · exact .inl ⟨x, y, hx, hy, hc, by rw [hr]; rfl⟩
      · exact .inr ⟨c, by rw [hr]; rfl⟩
    · exact .inr ⟨_, h⟩
  · exact .inr ⟨_, h⟩

/-- CMPXCHG: `x[r]` or the old value is written back, `r0` receives the old value (R328, R338). -/
theorem compareExchange_cases (z : Size) (d r : RegIdx) (off : Off) (s : State) :
    (∃ base v e, getReg s.regs d = .val base ∧ getReg s.regs r = .val v ∧ getReg s.regs .r0 = .val e ∧
        checkAccess s.plat (effectiveAddress base off) z .atomic = .ok () ∧
        compareExchange z d r off s =
          advance (setReg (setMem s (storeValue s.plat.endian s.mem (effectiveAddress base off) z
            (if loadValue s.plat.endian s.mem (effectiveAddress base off) z = lowBits z e then lowBits z v
              else loadValue s.plat.endian s.mem (effectiveAddress base off) z))) .r0
            (zext64 (loadValue s.plat.endian s.mem (effectiveAddress base off) z)))) ∨
      ∃ c, compareExchange z d r off s = raise c s := by
  unfold compareExchange
  rcases readReg_cases d s _ with ⟨x, hx, h⟩ | ⟨_, h⟩
  · rw [h]
    rcases readReg_cases r s _ with ⟨y, hy, h⟩ | ⟨_, h⟩
    · rw [h]
      rcases readReg_cases .r0 s _ with ⟨e, he, h⟩ | ⟨_, h⟩
      · rw [h]
        rcases atomicRMW_cases s (effectiveAddress x off) z
          (fun old => if old = lowBits z e then lowBits z y else old) with ⟨hc, hr⟩ | ⟨c, _, hr⟩
        · exact .inl ⟨x, y, e, hx, hy, he, hc, by rw [hr]; rfl⟩
        · exact .inr ⟨c, by rw [hr]; rfl⟩
      · exact .inr ⟨_, h⟩
    · exact .inr ⟨_, h⟩
  · exact .inr ⟨_, h⟩

/-- A platform lookup: the value, or `PlatformLookupFault` (R341). -/
theorem lookupOr_cases {α : Type} [BEq α] (table : List (α × Word)) (key : α) (fn : LookupFn) (arg : LookupArg) :
    (∃ v, table.lookup key = some v ∧ lookupOr table key fn arg = .ok v) ∨
      (table.lookup key = none ∧ lookupOr table key fn arg = .error (.platformLookupFault fn arg)) := by
  unfold lookupOr
  cases table.lookup key with
  | some v => exact .inl ⟨v, rfl, rfl⟩
  | none => exact .inr ⟨rfl, rfl⟩

/-! ## The step -/

/-- What a step that answers a next state did: `ENV` fired, and the fetched instruction ran or the fetch fault was
raised (R53, R411). -/
theorem step_cases {s t : State} (h : step s = .next t) :
    s.st = .running ∧
      ((∃ c, fetch (envTick s) = .error c ∧ t = raise c (envTick s)) ∨
        ∃ i, fetch (envTick s) = .ok i ∧ exec i (envTick s) = .next t) := by
  unfold step at h
  split at h
  · rename_i hs
    refine ⟨hs, ?_⟩
    unfold runInstruction at h
    split at h
    · rename_i i hf; exact .inr ⟨i, hf, h⟩
    · rename_i c hf
      exact .inl ⟨c, hf, by simpa using h.symm⟩
  · simp at h
  · simp at h

/-- A running state's step is the execution of what the fetch answers. -/
theorem step_of_running {s : State} (h : s.st = .running) : step s = runInstruction (envTick s) := by
  simp [step, h]

end Sys2Proof.Machine
end

