-- ==== Sys2Proof/Laws/PerInstr.lean ====
section
/-! SUPPORT. Statements for every instruction, one lemma per constructor of Instr. -/
namespace Sys2Proof

/-- The length rule (R86): an instruction's encoding has two words exactly when the opcode byte of its first
slot is `0x18`, else one. -/
def Laws.EncodedLength.Statement (i : Instr) : Prop :=
  (encodeWords i).length = if (encodeFields i).opcode = 0x18 then 2 else 1

theorem Laws.EncodedLength.add32K (d : RegIdx) (imm : Imm) :
    Laws.EncodedLength.Statement (.add32K d imm) := rfl

theorem Laws.EncodedLength.add32X (d s : RegIdx) :
    Laws.EncodedLength.Statement (.add32X d s) := rfl

theorem Laws.EncodedLength.sub32K (d : RegIdx) (imm : Imm) :
    Laws.EncodedLength.Statement (.sub32K d imm) := rfl

theorem Laws.EncodedLength.sub32X (d s : RegIdx) :
    Laws.EncodedLength.Statement (.sub32X d s) := rfl

theorem Laws.EncodedLength.mul32K (d : RegIdx) (imm : Imm) :
    Laws.EncodedLength.Statement (.mul32K d imm) := rfl

theorem Laws.EncodedLength.mul32X (d s : RegIdx) :
    Laws.EncodedLength.Statement (.mul32X d s) := rfl

theorem Laws.EncodedLength.div32K (d : RegIdx) (imm : Imm) :
    Laws.EncodedLength.Statement (.div32K d imm) := rfl

theorem Laws.EncodedLength.div32X (d s : RegIdx) :
    Laws.EncodedLength.Statement (.div32X d s) := rfl

theorem Laws.EncodedLength.sdiv32K (d : RegIdx) (imm : Imm) :
    Laws.EncodedLength.Statement (.sdiv32K d imm) := rfl

theorem Laws.EncodedLength.sdiv32X (d s : RegIdx) :
    Laws.EncodedLength.Statement (.sdiv32X d s) := rfl

theorem Laws.EncodedLength.or32K (d : RegIdx) (imm : Imm) :
    Laws.EncodedLength.Statement (.or32K d imm) := rfl

theorem Laws.EncodedLength.or32X (d s : RegIdx) :
    Laws.EncodedLength.Statement (.or32X d s) := rfl

theorem Laws.EncodedLength.and32K (d : RegIdx) (imm : Imm) :
    Laws.EncodedLength.Statement (.and32K d imm) := rfl

theorem Laws.EncodedLength.and32X (d s : RegIdx) :
    Laws.EncodedLength.Statement (.and32X d s) := rfl

theorem Laws.EncodedLength.lsh32K (d : RegIdx) (imm : Imm) :
    Laws.EncodedLength.Statement (.lsh32K d imm) := rfl

theorem Laws.EncodedLength.lsh32X (d s : RegIdx) :
    Laws.EncodedLength.Statement (.lsh32X d s) := rfl

theorem Laws.EncodedLength.rsh32K (d : RegIdx) (imm : Imm) :
    Laws.EncodedLength.Statement (.rsh32K d imm) := rfl

theorem Laws.EncodedLength.rsh32X (d s : RegIdx) :
    Laws.EncodedLength.Statement (.rsh32X d s) := rfl

theorem Laws.EncodedLength.neg32 (d : RegIdx) :
    Laws.EncodedLength.Statement (.neg32 d) := rfl

theorem Laws.EncodedLength.mod32K (d : RegIdx) (imm : Imm) :
    Laws.EncodedLength.Statement (.mod32K d imm) := rfl

theorem Laws.EncodedLength.mod32X (d s : RegIdx) :
    Laws.EncodedLength.Statement (.mod32X d s) := rfl

theorem Laws.EncodedLength.smod32K (d : RegIdx) (imm : Imm) :
    Laws.EncodedLength.Statement (.smod32K d imm) := rfl

theorem Laws.EncodedLength.smod32X (d s : RegIdx) :
    Laws.EncodedLength.Statement (.smod32X d s) := rfl

theorem Laws.EncodedLength.xor32K (d : RegIdx) (imm : Imm) :
    Laws.EncodedLength.Statement (.xor32K d imm) := rfl

theorem Laws.EncodedLength.xor32X (d s : RegIdx) :
    Laws.EncodedLength.Statement (.xor32X d s) := rfl

theorem Laws.EncodedLength.mov32K (d : RegIdx) (imm : Imm) :
    Laws.EncodedLength.Statement (.mov32K d imm) := rfl

theorem Laws.EncodedLength.mov32X (d s : RegIdx) :
    Laws.EncodedLength.Statement (.mov32X d s) := rfl

theorem Laws.EncodedLength.movsx32_8 (d s : RegIdx) :
    Laws.EncodedLength.Statement (.movsx32_8 d s) := rfl

theorem Laws.EncodedLength.movsx32_16 (d s : RegIdx) :
    Laws.EncodedLength.Statement (.movsx32_16 d s) := rfl

theorem Laws.EncodedLength.arsh32K (d : RegIdx) (imm : Imm) :
    Laws.EncodedLength.Statement (.arsh32K d imm) := rfl

theorem Laws.EncodedLength.arsh32X (d s : RegIdx) :
    Laws.EncodedLength.Statement (.arsh32X d s) := rfl

theorem Laws.EncodedLength.add64K (d : RegIdx) (imm : Imm) :
    Laws.EncodedLength.Statement (.add64K d imm) := rfl

theorem Laws.EncodedLength.add64X (d s : RegIdx) :
    Laws.EncodedLength.Statement (.add64X d s) := rfl

theorem Laws.EncodedLength.sub64K (d : RegIdx) (imm : Imm) :
    Laws.EncodedLength.Statement (.sub64K d imm) := rfl

theorem Laws.EncodedLength.sub64X (d s : RegIdx) :
    Laws.EncodedLength.Statement (.sub64X d s) := rfl

theorem Laws.EncodedLength.mul64K (d : RegIdx) (imm : Imm) :
    Laws.EncodedLength.Statement (.mul64K d imm) := rfl

theorem Laws.EncodedLength.mul64X (d s : RegIdx) :
    Laws.EncodedLength.Statement (.mul64X d s) := rfl

theorem Laws.EncodedLength.div64K (d : RegIdx) (imm : Imm) :
    Laws.EncodedLength.Statement (.div64K d imm) := rfl

theorem Laws.EncodedLength.div64X (d s : RegIdx) :
    Laws.EncodedLength.Statement (.div64X d s) := rfl

theorem Laws.EncodedLength.sdiv64K (d : RegIdx) (imm : Imm) :
    Laws.EncodedLength.Statement (.sdiv64K d imm) := rfl

theorem Laws.EncodedLength.sdiv64X (d s : RegIdx) :
    Laws.EncodedLength.Statement (.sdiv64X d s) := rfl

theorem Laws.EncodedLength.or64K (d : RegIdx) (imm : Imm) :
    Laws.EncodedLength.Statement (.or64K d imm) := rfl

theorem Laws.EncodedLength.or64X (d s : RegIdx) :
    Laws.EncodedLength.Statement (.or64X d s) := rfl

theorem Laws.EncodedLength.and64K (d : RegIdx) (imm : Imm) :
    Laws.EncodedLength.Statement (.and64K d imm) := rfl

theorem Laws.EncodedLength.and64X (d s : RegIdx) :
    Laws.EncodedLength.Statement (.and64X d s) := rfl

theorem Laws.EncodedLength.lsh64K (d : RegIdx) (imm : Imm) :
    Laws.EncodedLength.Statement (.lsh64K d imm) := rfl

theorem Laws.EncodedLength.lsh64X (d s : RegIdx) :
    Laws.EncodedLength.Statement (.lsh64X d s) := rfl

theorem Laws.EncodedLength.rsh64K (d : RegIdx) (imm : Imm) :
    Laws.EncodedLength.Statement (.rsh64K d imm) := rfl

theorem Laws.EncodedLength.rsh64X (d s : RegIdx) :
    Laws.EncodedLength.Statement (.rsh64X d s) := rfl

theorem Laws.EncodedLength.neg64 (d : RegIdx) :
    Laws.EncodedLength.Statement (.neg64 d) := rfl

theorem Laws.EncodedLength.mod64K (d : RegIdx) (imm : Imm) :
    Laws.EncodedLength.Statement (.mod64K d imm) := rfl

theorem Laws.EncodedLength.mod64X (d s : RegIdx) :
    Laws.EncodedLength.Statement (.mod64X d s) := rfl

theorem Laws.EncodedLength.smod64K (d : RegIdx) (imm : Imm) :
    Laws.EncodedLength.Statement (.smod64K d imm) := rfl

theorem Laws.EncodedLength.smod64X (d s : RegIdx) :
    Laws.EncodedLength.Statement (.smod64X d s) := rfl

theorem Laws.EncodedLength.xor64K (d : RegIdx) (imm : Imm) :
    Laws.EncodedLength.Statement (.xor64K d imm) := rfl

theorem Laws.EncodedLength.xor64X (d s : RegIdx) :
    Laws.EncodedLength.Statement (.xor64X d s) := rfl

theorem Laws.EncodedLength.mov64K (d : RegIdx) (imm : Imm) :
    Laws.EncodedLength.Statement (.mov64K d imm) := rfl

theorem Laws.EncodedLength.mov64X (d s : RegIdx) :
    Laws.EncodedLength.Statement (.mov64X d s) := rfl

theorem Laws.EncodedLength.movsx64_8 (d s : RegIdx) :
    Laws.EncodedLength.Statement (.movsx64_8 d s) := rfl

theorem Laws.EncodedLength.movsx64_16 (d s : RegIdx) :
    Laws.EncodedLength.Statement (.movsx64_16 d s) := rfl

theorem Laws.EncodedLength.movsx64_32 (d s : RegIdx) :
    Laws.EncodedLength.Statement (.movsx64_32 d s) := rfl

theorem Laws.EncodedLength.arsh64K (d : RegIdx) (imm : Imm) :
    Laws.EncodedLength.Statement (.arsh64K d imm) := rfl

theorem Laws.EncodedLength.arsh64X (d s : RegIdx) :
    Laws.EncodedLength.Statement (.arsh64X d s) := rfl

theorem Laws.EncodedLength.le16 (d : RegIdx) :
    Laws.EncodedLength.Statement (.le16 d) := rfl

theorem Laws.EncodedLength.le32 (d : RegIdx) :
    Laws.EncodedLength.Statement (.le32 d) := rfl

theorem Laws.EncodedLength.le64 (d : RegIdx) :
    Laws.EncodedLength.Statement (.le64 d) := rfl

theorem Laws.EncodedLength.be16 (d : RegIdx) :
    Laws.EncodedLength.Statement (.be16 d) := rfl

theorem Laws.EncodedLength.be32 (d : RegIdx) :
    Laws.EncodedLength.Statement (.be32 d) := rfl

theorem Laws.EncodedLength.be64 (d : RegIdx) :
    Laws.EncodedLength.Statement (.be64 d) := rfl

theorem Laws.EncodedLength.bswap16 (d : RegIdx) :
    Laws.EncodedLength.Statement (.bswap16 d) := rfl

theorem Laws.EncodedLength.bswap32 (d : RegIdx) :
    Laws.EncodedLength.Statement (.bswap32 d) := rfl

theorem Laws.EncodedLength.bswap64 (d : RegIdx) :
    Laws.EncodedLength.Statement (.bswap64 d) := rfl

theorem Laws.EncodedLength.ja (off : Off) :
    Laws.EncodedLength.Statement (.ja off) := rfl

theorem Laws.EncodedLength.ja32 (imm : Imm) :
    Laws.EncodedLength.Statement (.ja32 imm) := rfl

theorem Laws.EncodedLength.jeq64K (d : RegIdx) (off : Off) (imm : Imm) :
    Laws.EncodedLength.Statement (.jeq64K d off imm) := rfl

theorem Laws.EncodedLength.jeq64X (d s : RegIdx) (off : Off) :
    Laws.EncodedLength.Statement (.jeq64X d s off) := rfl

theorem Laws.EncodedLength.jgt64K (d : RegIdx) (off : Off) (imm : Imm) :
    Laws.EncodedLength.Statement (.jgt64K d off imm) := rfl

theorem Laws.EncodedLength.jgt64X (d s : RegIdx) (off : Off) :
    Laws.EncodedLength.Statement (.jgt64X d s off) := rfl

theorem Laws.EncodedLength.jge64K (d : RegIdx) (off : Off) (imm : Imm) :
    Laws.EncodedLength.Statement (.jge64K d off imm) := rfl

theorem Laws.EncodedLength.jge64X (d s : RegIdx) (off : Off) :
    Laws.EncodedLength.Statement (.jge64X d s off) := rfl

theorem Laws.EncodedLength.jset64K (d : RegIdx) (off : Off) (imm : Imm) :
    Laws.EncodedLength.Statement (.jset64K d off imm) := rfl

theorem Laws.EncodedLength.jset64X (d s : RegIdx) (off : Off) :
    Laws.EncodedLength.Statement (.jset64X d s off) := rfl

theorem Laws.EncodedLength.jne64K (d : RegIdx) (off : Off) (imm : Imm) :
    Laws.EncodedLength.Statement (.jne64K d off imm) := rfl

theorem Laws.EncodedLength.jne64X (d s : RegIdx) (off : Off) :
    Laws.EncodedLength.Statement (.jne64X d s off) := rfl

theorem Laws.EncodedLength.jsgt64K (d : RegIdx) (off : Off) (imm : Imm) :
    Laws.EncodedLength.Statement (.jsgt64K d off imm) := rfl

theorem Laws.EncodedLength.jsgt64X (d s : RegIdx) (off : Off) :
    Laws.EncodedLength.Statement (.jsgt64X d s off) := rfl

theorem Laws.EncodedLength.jsge64K (d : RegIdx) (off : Off) (imm : Imm) :
    Laws.EncodedLength.Statement (.jsge64K d off imm) := rfl

theorem Laws.EncodedLength.jsge64X (d s : RegIdx) (off : Off) :
    Laws.EncodedLength.Statement (.jsge64X d s off) := rfl

theorem Laws.EncodedLength.jlt64K (d : RegIdx) (off : Off) (imm : Imm) :
    Laws.EncodedLength.Statement (.jlt64K d off imm) := rfl

theorem Laws.EncodedLength.jlt64X (d s : RegIdx) (off : Off) :
    Laws.EncodedLength.Statement (.jlt64X d s off) := rfl

theorem Laws.EncodedLength.jle64K (d : RegIdx) (off : Off) (imm : Imm) :
    Laws.EncodedLength.Statement (.jle64K d off imm) := rfl

theorem Laws.EncodedLength.jle64X (d s : RegIdx) (off : Off) :
    Laws.EncodedLength.Statement (.jle64X d s off) := rfl

theorem Laws.EncodedLength.jslt64K (d : RegIdx) (off : Off) (imm : Imm) :
    Laws.EncodedLength.Statement (.jslt64K d off imm) := rfl

theorem Laws.EncodedLength.jslt64X (d s : RegIdx) (off : Off) :
    Laws.EncodedLength.Statement (.jslt64X d s off) := rfl

theorem Laws.EncodedLength.jsle64K (d : RegIdx) (off : Off) (imm : Imm) :
    Laws.EncodedLength.Statement (.jsle64K d off imm) := rfl

theorem Laws.EncodedLength.jsle64X (d s : RegIdx) (off : Off) :
    Laws.EncodedLength.Statement (.jsle64X d s off) := rfl

theorem Laws.EncodedLength.jeq32K (d : RegIdx) (off : Off) (imm : Imm) :
    Laws.EncodedLength.Statement (.jeq32K d off imm) := rfl

theorem Laws.EncodedLength.jeq32X (d s : RegIdx) (off : Off) :
    Laws.EncodedLength.Statement (.jeq32X d s off) := rfl

theorem Laws.EncodedLength.jgt32K (d : RegIdx) (off : Off) (imm : Imm) :
    Laws.EncodedLength.Statement (.jgt32K d off imm) := rfl

theorem Laws.EncodedLength.jgt32X (d s : RegIdx) (off : Off) :
    Laws.EncodedLength.Statement (.jgt32X d s off) := rfl

theorem Laws.EncodedLength.jge32K (d : RegIdx) (off : Off) (imm : Imm) :
    Laws.EncodedLength.Statement (.jge32K d off imm) := rfl

theorem Laws.EncodedLength.jge32X (d s : RegIdx) (off : Off) :
    Laws.EncodedLength.Statement (.jge32X d s off) := rfl

theorem Laws.EncodedLength.jset32K (d : RegIdx) (off : Off) (imm : Imm) :
    Laws.EncodedLength.Statement (.jset32K d off imm) := rfl

theorem Laws.EncodedLength.jset32X (d s : RegIdx) (off : Off) :
    Laws.EncodedLength.Statement (.jset32X d s off) := rfl

theorem Laws.EncodedLength.jne32K (d : RegIdx) (off : Off) (imm : Imm) :
    Laws.EncodedLength.Statement (.jne32K d off imm) := rfl

theorem Laws.EncodedLength.jne32X (d s : RegIdx) (off : Off) :
    Laws.EncodedLength.Statement (.jne32X d s off) := rfl

theorem Laws.EncodedLength.jsgt32K (d : RegIdx) (off : Off) (imm : Imm) :
    Laws.EncodedLength.Statement (.jsgt32K d off imm) := rfl

theorem Laws.EncodedLength.jsgt32X (d s : RegIdx) (off : Off) :
    Laws.EncodedLength.Statement (.jsgt32X d s off) := rfl

theorem Laws.EncodedLength.jsge32K (d : RegIdx) (off : Off) (imm : Imm) :
    Laws.EncodedLength.Statement (.jsge32K d off imm) := rfl

theorem Laws.EncodedLength.jsge32X (d s : RegIdx) (off : Off) :
    Laws.EncodedLength.Statement (.jsge32X d s off) := rfl

theorem Laws.EncodedLength.jlt32K (d : RegIdx) (off : Off) (imm : Imm) :
    Laws.EncodedLength.Statement (.jlt32K d off imm) := rfl

theorem Laws.EncodedLength.jlt32X (d s : RegIdx) (off : Off) :
    Laws.EncodedLength.Statement (.jlt32X d s off) := rfl

theorem Laws.EncodedLength.jle32K (d : RegIdx) (off : Off) (imm : Imm) :
    Laws.EncodedLength.Statement (.jle32K d off imm) := rfl

theorem Laws.EncodedLength.jle32X (d s : RegIdx) (off : Off) :
    Laws.EncodedLength.Statement (.jle32X d s off) := rfl

theorem Laws.EncodedLength.jslt32K (d : RegIdx) (off : Off) (imm : Imm) :
    Laws.EncodedLength.Statement (.jslt32K d off imm) := rfl

theorem Laws.EncodedLength.jslt32X (d s : RegIdx) (off : Off) :
    Laws.EncodedLength.Statement (.jslt32X d s off) := rfl

theorem Laws.EncodedLength.jsle32K (d : RegIdx) (off : Off) (imm : Imm) :
    Laws.EncodedLength.Statement (.jsle32K d off imm) := rfl

theorem Laws.EncodedLength.jsle32X (d s : RegIdx) (off : Off) :
    Laws.EncodedLength.Statement (.jsle32X d s off) := rfl

theorem Laws.EncodedLength.callHelper (imm : Imm) :
    Laws.EncodedLength.Statement (.callHelper imm) := rfl

theorem Laws.EncodedLength.callLocal (imm : Imm) :
    Laws.EncodedLength.Statement (.callLocal imm) := rfl

theorem Laws.EncodedLength.callBtf (imm : Imm) :
    Laws.EncodedLength.Statement (.callBtf imm) := rfl

theorem Laws.EncodedLength.exit :
    Laws.EncodedLength.Statement .exit := rfl

theorem Laws.EncodedLength.ldxw (d s : RegIdx) (off : Off) :
    Laws.EncodedLength.Statement (.ldxw d s off) := rfl

theorem Laws.EncodedLength.ldxh (d s : RegIdx) (off : Off) :
    Laws.EncodedLength.Statement (.ldxh d s off) := rfl

theorem Laws.EncodedLength.ldxb (d s : RegIdx) (off : Off) :
    Laws.EncodedLength.Statement (.ldxb d s off) := rfl

theorem Laws.EncodedLength.ldxdw (d s : RegIdx) (off : Off) :
    Laws.EncodedLength.Statement (.ldxdw d s off) := rfl

theorem Laws.EncodedLength.stw (d : RegIdx) (off : Off) (imm : Imm) :
    Laws.EncodedLength.Statement (.stw d off imm) := rfl

theorem Laws.EncodedLength.sth (d : RegIdx) (off : Off) (imm : Imm) :
    Laws.EncodedLength.Statement (.sth d off imm) := rfl

theorem Laws.EncodedLength.stb (d : RegIdx) (off : Off) (imm : Imm) :
    Laws.EncodedLength.Statement (.stb d off imm) := rfl

theorem Laws.EncodedLength.stdw (d : RegIdx) (off : Off) (imm : Imm) :
    Laws.EncodedLength.Statement (.stdw d off imm) := rfl

theorem Laws.EncodedLength.stxw (d s : RegIdx) (off : Off) :
    Laws.EncodedLength.Statement (.stxw d s off) := rfl

theorem Laws.EncodedLength.stxh (d s : RegIdx) (off : Off) :
    Laws.EncodedLength.Statement (.stxh d s off) := rfl

theorem Laws.EncodedLength.stxb (d s : RegIdx) (off : Off) :
    Laws.EncodedLength.Statement (.stxb d s off) := rfl

theorem Laws.EncodedLength.stxdw (d s : RegIdx) (off : Off) :
    Laws.EncodedLength.Statement (.stxdw d s off) := rfl

theorem Laws.EncodedLength.ldxsw (d s : RegIdx) (off : Off) :
    Laws.EncodedLength.Statement (.ldxsw d s off) := rfl

theorem Laws.EncodedLength.ldxsh (d s : RegIdx) (off : Off) :
    Laws.EncodedLength.Statement (.ldxsh d s off) := rfl

theorem Laws.EncodedLength.ldxsb (d s : RegIdx) (off : Off) :
    Laws.EncodedLength.Statement (.ldxsb d s off) := rfl

theorem Laws.EncodedLength.atomicAdd32 (d s : RegIdx) (off : Off) :
    Laws.EncodedLength.Statement (.atomicAdd32 d s off) := rfl

theorem Laws.EncodedLength.atomicFetchAdd32 (d s : RegIdx) (off : Off) :
    Laws.EncodedLength.Statement (.atomicFetchAdd32 d s off) := rfl

theorem Laws.EncodedLength.atomicOr32 (d s : RegIdx) (off : Off) :
    Laws.EncodedLength.Statement (.atomicOr32 d s off) := rfl

theorem Laws.EncodedLength.atomicFetchOr32 (d s : RegIdx) (off : Off) :
    Laws.EncodedLength.Statement (.atomicFetchOr32 d s off) := rfl

theorem Laws.EncodedLength.atomicAnd32 (d s : RegIdx) (off : Off) :
    Laws.EncodedLength.Statement (.atomicAnd32 d s off) := rfl

theorem Laws.EncodedLength.atomicFetchAnd32 (d s : RegIdx) (off : Off) :
    Laws.EncodedLength.Statement (.atomicFetchAnd32 d s off) := rfl

theorem Laws.EncodedLength.atomicXor32 (d s : RegIdx) (off : Off) :
    Laws.EncodedLength.Statement (.atomicXor32 d s off) := rfl

theorem Laws.EncodedLength.atomicFetchXor32 (d s : RegIdx) (off : Off) :
    Laws.EncodedLength.Statement (.atomicFetchXor32 d s off) := rfl

theorem Laws.EncodedLength.xchg32 (d s : RegIdx) (off : Off) :
    Laws.EncodedLength.Statement (.xchg32 d s off) := rfl

theorem Laws.EncodedLength.cmpxchg32 (d s : RegIdx) (off : Off) :
    Laws.EncodedLength.Statement (.cmpxchg32 d s off) := rfl

theorem Laws.EncodedLength.atomicAdd64 (d s : RegIdx) (off : Off) :
    Laws.EncodedLength.Statement (.atomicAdd64 d s off) := rfl

theorem Laws.EncodedLength.atomicFetchAdd64 (d s : RegIdx) (off : Off) :
    Laws.EncodedLength.Statement (.atomicFetchAdd64 d s off) := rfl

theorem Laws.EncodedLength.atomicOr64 (d s : RegIdx) (off : Off) :
    Laws.EncodedLength.Statement (.atomicOr64 d s off) := rfl

theorem Laws.EncodedLength.atomicFetchOr64 (d s : RegIdx) (off : Off) :
    Laws.EncodedLength.Statement (.atomicFetchOr64 d s off) := rfl

theorem Laws.EncodedLength.atomicAnd64 (d s : RegIdx) (off : Off) :
    Laws.EncodedLength.Statement (.atomicAnd64 d s off) := rfl

theorem Laws.EncodedLength.atomicFetchAnd64 (d s : RegIdx) (off : Off) :
    Laws.EncodedLength.Statement (.atomicFetchAnd64 d s off) := rfl

theorem Laws.EncodedLength.atomicXor64 (d s : RegIdx) (off : Off) :
    Laws.EncodedLength.Statement (.atomicXor64 d s off) := rfl

theorem Laws.EncodedLength.atomicFetchXor64 (d s : RegIdx) (off : Off) :
    Laws.EncodedLength.Statement (.atomicFetchXor64 d s off) := rfl

theorem Laws.EncodedLength.xchg64 (d s : RegIdx) (off : Off) :
    Laws.EncodedLength.Statement (.xchg64 d s off) := rfl

theorem Laws.EncodedLength.cmpxchg64 (d s : RegIdx) (off : Off) :
    Laws.EncodedLength.Statement (.cmpxchg64 d s off) := rfl

theorem Laws.EncodedLength.lddwImm (d : RegIdx) (imm nextImm : Imm) :
    Laws.EncodedLength.Statement (.lddwImm d imm nextImm) := rfl

theorem Laws.EncodedLength.lddwMapFd (d : RegIdx) (imm : Imm) :
    Laws.EncodedLength.Statement (.lddwMapFd d imm) := rfl

theorem Laws.EncodedLength.lddwMapFdVal (d : RegIdx) (imm nextImm : Imm) :
    Laws.EncodedLength.Statement (.lddwMapFdVal d imm nextImm) := rfl

theorem Laws.EncodedLength.lddwVar (d : RegIdx) (imm : Imm) :
    Laws.EncodedLength.Statement (.lddwVar d imm) := rfl

theorem Laws.EncodedLength.lddwCode (d : RegIdx) (imm : Imm) :
    Laws.EncodedLength.Statement (.lddwCode d imm) := rfl

theorem Laws.EncodedLength.lddwMapIdx (d : RegIdx) (imm : Imm) :
    Laws.EncodedLength.Statement (.lddwMapIdx d imm) := rfl

theorem Laws.EncodedLength.lddwMapIdxVal (d : RegIdx) (imm nextImm : Imm) :
    Laws.EncodedLength.Statement (.lddwMapIdxVal d imm nextImm) := rfl

theorem Laws.EncodedLength.ldabsw (imm : Imm) :
    Laws.EncodedLength.Statement (.ldabsw imm) := rfl

theorem Laws.EncodedLength.ldabsh (imm : Imm) :
    Laws.EncodedLength.Statement (.ldabsh imm) := rfl

theorem Laws.EncodedLength.ldabsb (imm : Imm) :
    Laws.EncodedLength.Statement (.ldabsb imm) := rfl

theorem Laws.EncodedLength.ldindw (s : RegIdx) (imm : Imm) :
    Laws.EncodedLength.Statement (.ldindw s imm) := rfl

theorem Laws.EncodedLength.ldindh (s : RegIdx) (imm : Imm) :
    Laws.EncodedLength.Statement (.ldindh s imm) := rfl

theorem Laws.EncodedLength.ldindb (s : RegIdx) (imm : Imm) :
    Laws.EncodedLength.Statement (.ldindb s imm) := rfl

theorem Laws.EncodedLength.imm64SecondSlot (nextImm : Imm) :
    Laws.EncodedLength.Statement (.imm64SecondSlot nextImm) := rfl

end Sys2Proof
end

