-- ==== Sys2Proof/Tests/Slice0.lean ====
section
/-! SUPPORT. Tests. Every expected result comes from spec/: the vectors V1 to V244 of spec/95_test_vectors.md (the
number stands beside each row), the encodings of the opcode table's rules, or a hand calculation from the rule
named. The witness theorems show, for each statement with hypotheses, a state that meets them. -/
namespace Sys2Proof.Tests
open Sys2Proof Sys2Proof.Machine

/-! ## Helpers -/

/-- A program slot from its eight bytes written left to right in program-memory order, as spec/ writes them. -/
def slotHex (h : Nat) : Slot :=
  let b (i : Nat) : Byte := (BitVec.ofNat 64 h).extractLsb' (56 - 8 * i) 8
  slotOfBytes (b 0) (b 1) (b 2) (b 3) (b 4) (b 5) (b 6) (b 7)

/-- A register file in which exactly the listed registers are written. -/
def regsOf (l : List (RegIdx × Word)) : RegFile := l.foldl (fun x p => putReg x p.1 (.val p.2)) noRegs

/-- Data memory from 0x1000 on with sixteen bytes, written left to right in address order. -/
def memHex (h : Nat) : Memory :=
  writeBytes [] 0x1000 ((List.range 16).map fun i => (BitVec.ofNat 128 h).extractLsb' (120 - 8 * i) 8)

/-- The sixteen bytes the vectors put at 0x1000 to 0x100f. -/
def mem0 : Nat := 0x8899aabbccddeeff0102030405060708

/-- The platform of the vectors: the parameters the file's head states, accesses admitted to exactly the listed
bytes, and the platform functions of its section 2.8. -/
def vecPlat (e : Endian) : Platform :=
  { defaultPlatform with
    endian := e
    maxCallDepth := some 8
    grants := [⟨⟨0x1000, 16⟩, [.read, .write, .atomic], [.b, .h, .w, .dw]⟩]
    helpers := [(.staticId, 7)]
    mapByFd := [(3, 0xa000)]
    mapByIdx := [(0, 0xb000)]
    mapVal := [(0xa000, 0x20000), (0xb000, 0x30000)]
    varAddr := [(9, 0x40000)]
    codeAddr := [((2, 4), 0x50030)] }

/-- The state before a vector: the slots at `pc`, the listed registers, the sixteen bytes. -/
def before (e : Endian) (pc : Nat) (slots : List Nat) (regs : List (RegIdx × Word)) : State :=
  { State.entry (vecPlat e) (List.replicate pc 0 ++ slots.map slotHex) (regsOf regs) (memHex mem0) [] [] with pc := pc }

/-- One step of the state answers exactly this state. -/
def stepsTo (s t : State) : Bool :=
  match step s with
  | .next u => decide (u = t)
  | .fault _ => false
  | .refused _ => false

/-- A row whose instruction changes registers and `pc` alone, at slot 0 of a little-endian host. -/
def goes (slots : List Nat) (regs regs' : List (RegIdx × Word)) (pc' : Int) : Bool :=
  let s := before .little 0 slots regs
  stepsTo s { s with regs := regsOf regs', pc := pc' }

/-- The same on a big-endian host. -/
def goesBig (slots : List Nat) (regs regs' : List (RegIdx × Word)) (pc' : Int) : Bool :=
  let s := before .big 0 slots regs
  stepsTo s { s with regs := regsOf regs', pc := pc' }

/-- The same at another slot. -/
def goesAt (pc : Nat) (slots : List Nat) (regs regs' : List (RegIdx × Word)) (pc' : Int) : Bool :=
  let s := before .little pc slots regs
  stepsTo s { s with regs := regsOf regs', pc := pc' }

/-- A row whose instruction changes memory too. -/
def stores (e : Endian) (slot : Nat) (regs regs' : List (RegIdx × Word)) (mem' : Nat) : Bool :=
  let s := before e 0 [slot] regs
  stepsTo s { s with regs := regsOf regs', mem := memHex mem', pc := 1 }

/-- A row whose instruction faults. -/
def faults (slots : List Nat) (regs : List (RegIdx × Word)) (c : Cause) : Bool :=
  let s := before .little 0 slots regs
  stepsTo s { s with st := .faulted c 0 }

/-! ## Decoding: every constructor from a word written out from its rule's encoding -/

/-- On a little-endian host, all groups supported, the slot (and the one after it) decodes to the instruction. -/
def decodesTo (h : Nat) (after : Option Nat) (i : Instr) : Bool :=
  match decode .little allGroups (slotHex h) (after.map slotHex) with
  | .ok j => decide (j = i)
  | .error _ => false

/-- The encodings of 40_arithmetic_alu32.md, part 1. -/
theorem test_decode_arithmetic_alu32_1 :
    (decodesTo 0x0401000005000080 none (.add32K .r1 0x80000005) &&
      decodesTo 0x0c21000000000000 none (.add32X .r1 .r2) &&
      decodesTo 0x1401000005000080 none (.sub32K .r1 0x80000005) &&
      decodesTo 0x1c21000000000000 none (.sub32X .r1 .r2) &&
      decodesTo 0x2401000005000080 none (.mul32K .r1 0x80000005) &&
      decodesTo 0x2c21000000000000 none (.mul32X .r1 .r2) &&
      decodesTo 0x3401000005000080 none (.div32K .r1 0x80000005) &&
      decodesTo 0x3c21000000000000 none (.div32X .r1 .r2) &&
      decodesTo 0x3401010005000080 none (.sdiv32K .r1 0x80000005) &&
      decodesTo 0x3c21010000000000 none (.sdiv32X .r1 .r2) &&
      decodesTo 0x4401000005000080 none (.or32K .r1 0x80000005) &&
      decodesTo 0x4c21000000000000 none (.or32X .r1 .r2) &&
      decodesTo 0x5401000005000080 none (.and32K .r1 0x80000005) &&
      decodesTo 0x5c21000000000000 none (.and32X .r1 .r2) &&
      decodesTo 0x6401000005000080 none (.lsh32K .r1 0x80000005)) = true := by decide +kernel

/-- The encodings of 40_arithmetic_alu32.md, part 2. -/
theorem test_decode_arithmetic_alu32_2 :
    (decodesTo 0x6c21000000000000 none (.lsh32X .r1 .r2) &&
      decodesTo 0x7401000005000080 none (.rsh32K .r1 0x80000005) &&
      decodesTo 0x7c21000000000000 none (.rsh32X .r1 .r2) &&
      decodesTo 0x8401000000000000 none (.neg32 .r1) &&
      decodesTo 0x9401000005000080 none (.mod32K .r1 0x80000005) &&
      decodesTo 0x9c21000000000000 none (.mod32X .r1 .r2) &&
      decodesTo 0x9401010005000080 none (.smod32K .r1 0x80000005) &&
      decodesTo 0x9c21010000000000 none (.smod32X .r1 .r2) &&
      decodesTo 0xa401000005000080 none (.xor32K .r1 0x80000005) &&
      decodesTo 0xac21000000000000 none (.xor32X .r1 .r2) &&
      decodesTo 0xb401000005000080 none (.mov32K .r1 0x80000005) &&
      decodesTo 0xbc21000000000000 none (.mov32X .r1 .r2) &&
      decodesTo 0xbc21080000000000 none (.movsx32_8 .r1 .r2) &&
      decodesTo 0xbc21100000000000 none (.movsx32_16 .r1 .r2) &&
      decodesTo 0xc401000005000080 none (.arsh32K .r1 0x80000005) &&
      decodesTo 0xcc21000000000000 none (.arsh32X .r1 .r2)) = true := by decide +kernel

/-- The encodings of 41_arithmetic_alu64.md, part 1. -/
theorem test_decode_arithmetic_alu64_1 :
    (decodesTo 0x0701000005000080 none (.add64K .r1 0x80000005) &&
      decodesTo 0x0f21000000000000 none (.add64X .r1 .r2) &&
      decodesTo 0x1701000005000080 none (.sub64K .r1 0x80000005) &&
      decodesTo 0x1f21000000000000 none (.sub64X .r1 .r2) &&
      decodesTo 0x2701000005000080 none (.mul64K .r1 0x80000005) &&
      decodesTo 0x2f21000000000000 none (.mul64X .r1 .r2) &&
      decodesTo 0x3701000005000080 none (.div64K .r1 0x80000005) &&
      decodesTo 0x3f21000000000000 none (.div64X .r1 .r2) &&
      decodesTo 0x3701010005000080 none (.sdiv64K .r1 0x80000005) &&
      decodesTo 0x3f21010000000000 none (.sdiv64X .r1 .r2) &&
      decodesTo 0x4701000005000080 none (.or64K .r1 0x80000005) &&
      decodesTo 0x4f21000000000000 none (.or64X .r1 .r2) &&
      decodesTo 0x5701000005000080 none (.and64K .r1 0x80000005) &&
      decodesTo 0x5f21000000000000 none (.and64X .r1 .r2) &&
      decodesTo 0x6701000005000080 none (.lsh64K .r1 0x80000005) &&
      decodesTo 0x6f21000000000000 none (.lsh64X .r1 .r2)) = true := by decide +kernel

/-- The encodings of 41_arithmetic_alu64.md, part 2. -/
theorem test_decode_arithmetic_alu64_2 :
    (decodesTo 0x7701000005000080 none (.rsh64K .r1 0x80000005) &&
      decodesTo 0x7f21000000000000 none (.rsh64X .r1 .r2) &&
      decodesTo 0x8701000000000000 none (.neg64 .r1) &&
      decodesTo 0x9701000005000080 none (.mod64K .r1 0x80000005) &&
      decodesTo 0x9f21000000000000 none (.mod64X .r1 .r2) &&
      decodesTo 0x9701010005000080 none (.smod64K .r1 0x80000005) &&
      decodesTo 0x9f21010000000000 none (.smod64X .r1 .r2) &&
      decodesTo 0xa701000005000080 none (.xor64K .r1 0x80000005) &&
      decodesTo 0xaf21000000000000 none (.xor64X .r1 .r2) &&
      decodesTo 0xb701000005000080 none (.mov64K .r1 0x80000005) &&
      decodesTo 0xbf21000000000000 none (.mov64X .r1 .r2) &&
      decodesTo 0xbf21080000000000 none (.movsx64_8 .r1 .r2) &&
      decodesTo 0xbf21100000000000 none (.movsx64_16 .r1 .r2) &&
      decodesTo 0xbf21200000000000 none (.movsx64_32 .r1 .r2) &&
      decodesTo 0xc701000005000080 none (.arsh64K .r1 0x80000005) &&
      decodesTo 0xcf21000000000000 none (.arsh64X .r1 .r2)) = true := by decide +kernel

/-- The encodings of 42_byteswap.md. -/
theorem test_decode_byteswap :
    (decodesTo 0xd401000010000000 none (.le16 .r1) &&
      decodesTo 0xd401000020000000 none (.le32 .r1) &&
      decodesTo 0xd401000040000000 none (.le64 .r1) &&
      decodesTo 0xdc01000010000000 none (.be16 .r1) &&
      decodesTo 0xdc01000020000000 none (.be32 .r1) &&
      decodesTo 0xdc01000040000000 none (.be64 .r1) &&
      decodesTo 0xd701000010000000 none (.bswap16 .r1) &&
      decodesTo 0xd701000020000000 none (.bswap32 .r1) &&
      decodesTo 0xd701000040000000 none (.bswap64 .r1)) = true := by decide +kernel

/-- The encodings of 43_jump.md, part 1. -/
theorem test_decode_jump_1 :
    (decodesTo 0x0500038000000000 none (.ja 0x8003) &&
      decodesTo 0x0600000005000080 none (.ja32 0x80000005) &&
      decodesTo 0x1501038005000080 none (.jeq64K .r1 0x8003 0x80000005) &&
      decodesTo 0x1d21038000000000 none (.jeq64X .r1 .r2 0x8003) &&
      decodesTo 0x2501038005000080 none (.jgt64K .r1 0x8003 0x80000005) &&
      decodesTo 0x2d21038000000000 none (.jgt64X .r1 .r2 0x8003) &&
      decodesTo 0x3501038005000080 none (.jge64K .r1 0x8003 0x80000005) &&
      decodesTo 0x3d21038000000000 none (.jge64X .r1 .r2 0x8003) &&
      decodesTo 0x4501038005000080 none (.jset64K .r1 0x8003 0x80000005) &&
      decodesTo 0x4d21038000000000 none (.jset64X .r1 .r2 0x8003) &&
      decodesTo 0x5501038005000080 none (.jne64K .r1 0x8003 0x80000005) &&
      decodesTo 0x5d21038000000000 none (.jne64X .r1 .r2 0x8003) &&
      decodesTo 0x6501038005000080 none (.jsgt64K .r1 0x8003 0x80000005) &&
      decodesTo 0x6d21038000000000 none (.jsgt64X .r1 .r2 0x8003) &&
      decodesTo 0x7501038005000080 none (.jsge64K .r1 0x8003 0x80000005) &&
      decodesTo 0x7d21038000000000 none (.jsge64X .r1 .r2 0x8003) &&
      decodesTo 0xa501038005000080 none (.jlt64K .r1 0x8003 0x80000005) &&
      decodesTo 0xad21038000000000 none (.jlt64X .r1 .r2 0x8003) &&
      decodesTo 0xb501038005000080 none (.jle64K .r1 0x8003 0x80000005) &&
      decodesTo 0xbd21038000000000 none (.jle64X .r1 .r2 0x8003) &&
      decodesTo 0xc501038005000080 none (.jslt64K .r1 0x8003 0x80000005) &&
      decodesTo 0xcd21038000000000 none (.jslt64X .r1 .r2 0x8003) &&
      decodesTo 0xd501038005000080 none (.jsle64K .r1 0x8003 0x80000005)) = true := by decide +kernel

/-- The encodings of 43_jump.md, part 2. -/
theorem test_decode_jump_2 :
    (decodesTo 0xdd21038000000000 none (.jsle64X .r1 .r2 0x8003) &&
      decodesTo 0x1601038005000080 none (.jeq32K .r1 0x8003 0x80000005) &&
      decodesTo 0x1e21038000000000 none (.jeq32X .r1 .r2 0x8003) &&
      decodesTo 0x2601038005000080 none (.jgt32K .r1 0x8003 0x80000005) &&
      decodesTo 0x2e21038000000000 none (.jgt32X .r1 .r2 0x8003) &&
      decodesTo 0x3601038005000080 none (.jge32K .r1 0x8003 0x80000005) &&
      decodesTo 0x3e21038000000000 none (.jge32X .r1 .r2 0x8003) &&
      decodesTo 0x4601038005000080 none (.jset32K .r1 0x8003 0x80000005) &&
      decodesTo 0x4e21038000000000 none (.jset32X .r1 .r2 0x8003) &&
      decodesTo 0x5601038005000080 none (.jne32K .r1 0x8003 0x80000005) &&
      decodesTo 0x5e21038000000000 none (.jne32X .r1 .r2 0x8003) &&
      decodesTo 0x6601038005000080 none (.jsgt32K .r1 0x8003 0x80000005) &&
      decodesTo 0x6e21038000000000 none (.jsgt32X .r1 .r2 0x8003) &&
      decodesTo 0x7601038005000080 none (.jsge32K .r1 0x8003 0x80000005) &&
      decodesTo 0x7e21038000000000 none (.jsge32X .r1 .r2 0x8003) &&
      decodesTo 0xa601038005000080 none (.jlt32K .r1 0x8003 0x80000005) &&
      decodesTo 0xae21038000000000 none (.jlt32X .r1 .r2 0x8003) &&
      decodesTo 0xb601038005000080 none (.jle32K .r1 0x8003 0x80000005) &&
      decodesTo 0xbe21038000000000 none (.jle32X .r1 .r2 0x8003) &&
      decodesTo 0xc601038005000080 none (.jslt32K .r1 0x8003 0x80000005) &&
      decodesTo 0xce21038000000000 none (.jslt32X .r1 .r2 0x8003) &&
      decodesTo 0xd601038005000080 none (.jsle32K .r1 0x8003 0x80000005) &&
      decodesTo 0xde21038000000000 none (.jsle32X .r1 .r2 0x8003)) = true := by decide +kernel

/-- The encodings of 44_call_exit.md. -/
theorem test_decode_call_exit :
    (decodesTo 0x8500000005000080 none (.callHelper 0x80000005) &&
      decodesTo 0x8510000005000080 none (.callLocal 0x80000005) &&
      decodesTo 0x8520000005000080 none (.callBtf 0x80000005) &&
      decodesTo 0x9500000000000000 none (.exit)) = true := by decide +kernel

/-- The encodings of 45_load_store.md. -/
theorem test_decode_load_store :
    (decodesTo 0x6121038000000000 none (.ldxw .r1 .r2 0x8003) &&
      decodesTo 0x6921038000000000 none (.ldxh .r1 .r2 0x8003) &&
      decodesTo 0x7121038000000000 none (.ldxb .r1 .r2 0x8003) &&
      decodesTo 0x7921038000000000 none (.ldxdw .r1 .r2 0x8003) &&
      decodesTo 0x6201038005000080 none (.stw .r1 0x8003 0x80000005) &&
      decodesTo 0x6a01038005000080 none (.sth .r1 0x8003 0x80000005) &&
      decodesTo 0x7201038005000080 none (.stb .r1 0x8003 0x80000005) &&
      decodesTo 0x7a01038005000080 none (.stdw .r1 0x8003 0x80000005) &&
      decodesTo 0x6321038000000000 none (.stxw .r1 .r2 0x8003) &&
      decodesTo 0x6b21038000000000 none (.stxh .r1 .r2 0x8003) &&
      decodesTo 0x7321038000000000 none (.stxb .r1 .r2 0x8003) &&
      decodesTo 0x7b21038000000000 none (.stxdw .r1 .r2 0x8003) &&
      decodesTo 0x8121038000000000 none (.ldxsw .r1 .r2 0x8003) &&
      decodesTo 0x8921038000000000 none (.ldxsh .r1 .r2 0x8003) &&
      decodesTo 0x9121038000000000 none (.ldxsb .r1 .r2 0x8003)) = true := by decide +kernel

/-- The encodings of 46_atomic.md. -/
theorem test_decode_atomic :
    (decodesTo 0xc321038000000000 none (.atomicAdd32 .r1 .r2 0x8003) &&
      decodesTo 0xc321038001000000 none (.atomicFetchAdd32 .r1 .r2 0x8003) &&
      decodesTo 0xc321038040000000 none (.atomicOr32 .r1 .r2 0x8003) &&
      decodesTo 0xc321038041000000 none (.atomicFetchOr32 .r1 .r2 0x8003) &&
      decodesTo 0xc321038050000000 none (.atomicAnd32 .r1 .r2 0x8003) &&
      decodesTo 0xc321038051000000 none (.atomicFetchAnd32 .r1 .r2 0x8003) &&
      decodesTo 0xc3210380a0000000 none (.atomicXor32 .r1 .r2 0x8003) &&
      decodesTo 0xc3210380a1000000 none (.atomicFetchXor32 .r1 .r2 0x8003) &&
      decodesTo 0xc3210380e1000000 none (.xchg32 .r1 .r2 0x8003) &&
      decodesTo 0xc3210380f1000000 none (.cmpxchg32 .r1 .r2 0x8003) &&
      decodesTo 0xdb21038000000000 none (.atomicAdd64 .r1 .r2 0x8003) &&
      decodesTo 0xdb21038001000000 none (.atomicFetchAdd64 .r1 .r2 0x8003) &&
      decodesTo 0xdb21038040000000 none (.atomicOr64 .r1 .r2 0x8003) &&
      decodesTo 0xdb21038041000000 none (.atomicFetchOr64 .r1 .r2 0x8003) &&
      decodesTo 0xdb21038050000000 none (.atomicAnd64 .r1 .r2 0x8003) &&
      decodesTo 0xdb21038051000000 none (.atomicFetchAnd64 .r1 .r2 0x8003) &&
      decodesTo 0xdb210380a0000000 none (.atomicXor64 .r1 .r2 0x8003) &&
      decodesTo 0xdb210380a1000000 none (.atomicFetchXor64 .r1 .r2 0x8003) &&
      decodesTo 0xdb210380e1000000 none (.xchg64 .r1 .r2 0x8003) &&
      decodesTo 0xdb210380f1000000 none (.cmpxchg64 .r1 .r2 0x8003)) = true := by decide +kernel

/-- The encodings of 47_imm64.md. -/
theorem test_decode_imm64 :
    (decodesTo 0x1801000005000080 (some 0x0000000006000090) (.lddwImm .r1 0x80000005 0x90000006) &&
      decodesTo 0x1811000005000080 (some 0x0000000000000000) (.lddwMapFd .r1 0x80000005) &&
      decodesTo 0x1821000005000080 (some 0x0000000006000090) (.lddwMapFdVal .r1 0x80000005 0x90000006) &&
      decodesTo 0x1831000005000080 (some 0x0000000000000000) (.lddwVar .r1 0x80000005) &&
      decodesTo 0x1841000005000080 (some 0x0000000000000000) (.lddwCode .r1 0x80000005) &&
      decodesTo 0x1851000005000080 (some 0x0000000000000000) (.lddwMapIdx .r1 0x80000005) &&
      decodesTo 0x1861000005000080 (some 0x0000000006000090) (.lddwMapIdxVal .r1 0x80000005 0x90000006)) = true := by decide +kernel

/-- The encodings of 48_packet.md. -/
theorem test_decode_packet :
    (decodesTo 0x2000000005000080 none (.ldabsw 0x80000005) &&
      decodesTo 0x2800000005000080 none (.ldabsh 0x80000005) &&
      decodesTo 0x3000000005000080 none (.ldabsb 0x80000005) &&
      decodesTo 0x4020000005000080 none (.ldindw .r2 0x80000005) &&
      decodesTo 0x4820000005000080 none (.ldindh .r2 0x80000005) &&
      decodesTo 0x5020000005000080 none (.ldindb .r2 0x80000005)) = true := by decide +kernel

/-- The same encodings on a big-endian host (R71, R72; V4, V17 and the source's second line). -/
theorem test_decode_big_endian :
    decode .big allGroups (slotHex 0x0710000011223344) none = .ok (.add64K .r1 0x11223344) ∧
    decode .big allGroups (slotHex 0xd410000000000010) none = .ok (.le16 .r1) ∧
    decode .big allGroups (slotHex 0x6312fffe00000000) none = .ok (.stxw .r1 .r2 0xfffe) := by decide

/-! ## The vectors of spec/95_test_vectors.md, at most two for an instruction -/

/-- Vectors: V1, V2, V3, V4, V5, V6, V7, V8, V9, V10, V11, V12, V13, V14, V15, V16, V17, V18, V19, V20, V21, V22,
V23, V24, V25, V26, V27, V28, V29, V30, V31, V32, V33, V34, V36, V37, V38, V39, V40. -/
theorem test_vectors_source :
    (goes [0xbf21080000000000] [(.r2, 0x86)] [(.r1, 0xffffffffffffff86), (.r2, 0x86)] 1 &&
      goes [0xbc21100000000000] [(.r2, 0x12348086)] [(.r1, 0xffff8086), (.r2, 0x12348086)] 1 &&
      goes [0x0701000044332211] [(.r1, 0x1)] [(.r1, 0x11223345)] 1 &&
      goesBig [0x0710000011223344] [(.r1, 0x1)] [(.r1, 0x11223345)] 1 &&
      goes [0x9701010003000000] [(.r1, 0xfffffffffffffff3)] [(.r1, 0xffffffffffffffff)] 1 &&
      goes [0x3701010003000000] [(.r1, 0xfffffffffffffff3)] [(.r1, 0xfffffffffffffffc)] 1 &&
      goes [0x97010100fdffffff] [(.r1, 0xd)] [(.r1, 0x1)] 1 &&
      goes [0x9c21010000000000] [(.r1, 0xfffffff3), (.r2, 0x3)] [(.r1, 0xffffffff), (.r2, 0x3)] 1 &&
      goes [0x0c21000000000000] [(.r1, 0x1ffffffff), (.r2, 0xa00000001)] [(.r1, 0x0), (.r2, 0xa00000001)] 1 &&
      goes [0x0f21000000000000] [(.r1, 0x1ffffffff), (.r2, 0xa00000001)] [(.r1, 0xc00000000), (.r2, 0xa00000001)] 1 &&
      goes [0xa40100000000ffff] [(.r1, 0xffffffff12345678)] [(.r1, 0xedcb5678)] 1 &&
      goes [0xa70100000000ffff] [(.r1, 0xffffffff12345678)] [(.r1, 0xedcb5678)] 1 &&
      goes [0xb701000000000080] [] [(.r1, 0xffffffff80000000)] 1 &&
      goes [0xbc21000000000000] [(.r2, 0xdeadbeef80000000)] [(.r1, 0x80000000), (.r2, 0xdeadbeef80000000)] 1 &&
      goes [0xbc21080000000000] [(.r2, 0x1234f6)] [(.r1, 0xfffffff6), (.r2, 0x1234f6)] 1 &&
      goes [0xd401000010000000] [(.r1, 0x1122334455667788)] [(.r1, 0x7788)] 1 &&
      goesBig [0xd410000000000010] [(.r1, 0x1122334455667788)] [(.r1, 0x8877)] 1 &&
      goes [0xdc01000040000000] [(.r1, 0x1122334455667788)] [(.r1, 0x8877665544332211)] 1 &&
      goes [0xd701000020000000] [(.r1, 0x1122334455667788)] [(.r1, 0x88776655)] 1 &&
      goes [0x7e21030000000000] [(.r1, 0xffffffff), (.r2, 0x0)] [(.r1, 0xffffffff), (.r2, 0x0)] 1 &&
      goes [0xb5010300ffffffff] [(.r1, 0xfffffffffffffffe)] [(.r1, 0xfffffffffffffffe)] 4 &&
      goes [0x0600000000000100] [] [] 65537 &&
      stores .little 0x6321040000000000 [(.r1, 0x1000), (.r2, 0x1122334455667788)] [(.r1, 0x1000), (.r2, 0x1122334455667788)] 0x8899aabb887766550102030405060708 &&
      stores .little 0x6a0102003412ffff [(.r1, 0x1000)] [(.r1, 0x1000)] 0x88993412ccddeeff0102030405060708 &&
      goes [0x6921020000000000] [(.r2, 0x1000)] [(.r1, 0xbbaa), (.r2, 0x1000)] 1 &&
      goes [0x8921020000000000] [(.r2, 0x1000)] [(.r1, 0xffffffffffffbbaa), (.r2, 0x1000)] 1 &&
      stores .little 0xc321080000000000 [(.r1, 0x1000), (.r2, 0x100000001)] [(.r1, 0x1000), (.r2, 0x100000001)] 0x8899aabbccddeeff0202030405060708 &&
      stores .little 0xdb21080000000000 [(.r1, 0x1000), (.r2, 0x100000001)] [(.r1, 0x1000), (.r2, 0x100000001)] 0x8899aabbccddeeff0202030406060708 &&
      goes [0x3f21000000000000] [(.r1, 0xaaaaaaaa55555555), (.r2, 0x0)] [(.r1, 0x0), (.r2, 0x0)] 1 &&
      goes [0x3c21000000000000] [(.r1, 0xaaaaaaaa55555555), (.r2, 0x700000000)] [(.r1, 0x0), (.r2, 0x700000000)] 1 &&
      goes [0x3701010000000000] [(.r1, 0xaaaaaaaa55555555)] [(.r1, 0x0)] 1 &&
      goes [0x9f21000000000000] [(.r1, 0xaaaaaaaa55555555), (.r2, 0x0)] [(.r1, 0xaaaaaaaa55555555), (.r2, 0x0)] 1 &&
      goes [0x9c21000000000000] [(.r1, 0xaaaaaaaa55555555), (.r2, 0x0)] [(.r1, 0x55555555), (.r2, 0x0)] 1 &&
      goes [0x9401010000000000] [(.r1, 0xaaaaaaaa55555555)] [(.r1, 0x55555555)] 1 &&
      stores .little 0xc3210800f1000000 [(.r0, 0xffffffff04030201), (.r1, 0x1000), (.r2, 0xcafebabe)] [(.r0, 0x4030201), (.r1, 0x1000), (.r2, 0xcafebabe)] 0x8899aabbccddeeffbebafeca05060708 &&
      goes [0xc3210800f1000000] [(.r0, 0x0), (.r1, 0x1000), (.r2, 0xcafebabe)] [(.r0, 0x4030201), (.r1, 0x1000), (.r2, 0xcafebabe)] 1 &&
      stores .little 0xdb210800f1000000 [(.r0, 0x807060504030201), (.r1, 0x1000), (.r2, 0xcafebabe)] [(.r0, 0x807060504030201), (.r1, 0x1000), (.r2, 0xcafebabe)] 0x8899aabbccddeeffbebafeca00000000 &&
      goes [0x1801000088776655, 0x0000000044332211] [] [(.r1, 0x1122334455667788)] 2 &&
      goes [0x1801000000000080, 0x0000000001000000] [] [(.r1, 0x180000000)] 2) = true := by decide +kernel

/-- Vectors: V42, V43, V44, V45, V46, V47, V48, V49, V50, V51, V52, V53, V54, V55, V56, V57, V58, V59, V60, V61,
V62, V63, V65, V66, V67, V68. -/
theorem test_vectors_32_bit_arithmetic :
    (goes [0x0401000001000000] [(.r1, 0xdeadbeefffffffff)] [(.r1, 0x0)] 1 &&
      goes [0x04010000ffffffff] [(.r1, 0x5)] [(.r1, 0x4)] 1 &&
      goes [0x1c21000000000000] [(.r1, 0x0), (.r2, 0x1)] [(.r1, 0xffffffff), (.r2, 0x1)] 1 &&
      goes [0x2401000000000100] [(.r1, 0x10000)] [(.r1, 0x0)] 1 &&
      goes [0x2c21000000000000] [(.r1, 0xffffffff), (.r2, 0xffffffff)] [(.r1, 0x1), (.r2, 0xffffffff)] 1 &&
      goes [0x34010000ffffffff] [(.r1, 0xdeadbeeffffffffe)] [(.r1, 0x0)] 1 &&
      goes [0x3401000007000000] [(.r1, 0x64)] [(.r1, 0xe)] 1 &&
      goes [0x34010100ffffffff] [(.r1, 0xfffffffe)] [(.r1, 0x2)] 1 &&
      goes [0x3c21010000000000] [(.r1, 0x80000000), (.r2, 0xffffffff)] [(.r1, 0x80000000), (.r2, 0xffffffff)] 1 &&
      goes [0x9c21010000000000] [(.r1, 0x80000000), (.r2, 0xffffffff)] [(.r1, 0x0), (.r2, 0xffffffff)] 1 &&
      goes [0x3401010002000000] [(.r1, 0xfffffff9)] [(.r1, 0xfffffffd)] 1 &&
      goes [0x9401000007000000] [(.r1, 0xdeadbeef00000064)] [(.r1, 0x2)] 1 &&
      goes [0x440100000f000000] [(.r1, 0xdeadbeef000000f0)] [(.r1, 0xff)] 1 &&
      goes [0x5c21000000000000] [(.r1, 0xffffffffffffffff), (.r2, 0xffffffff0f0f0f0f)] [(.r1, 0xf0f0f0f), (.r2, 0xffffffff0f0f0f0f)] 1 &&
      goes [0x640100001f000000] [(.r1, 0x1)] [(.r1, 0x80000000)] 1 &&
      goes [0x6c21000000000000] [(.r1, 0x1), (.r2, 0x20)] [(.r1, 0x1), (.r2, 0x20)] 1 &&
      goes [0x6c21000000000000] [(.r1, 0x1), (.r2, 0xffffffffffffff21)] [(.r1, 0x2), (.r2, 0xffffffffffffff21)] 1 &&
      goes [0x740100001f000000] [(.r1, 0xdeadbeef80000000)] [(.r1, 0x1)] 1 &&
      goes [0xc40100001f000000] [(.r1, 0xdeadbeef80000000)] [(.r1, 0xffffffff)] 1 &&
      goes [0xcc21000000000000] [(.r1, 0x7fffffff), (.r2, 0x23)] [(.r1, 0xfffffff), (.r2, 0x23)] 1 &&
      goes [0x8401000000000000] [(.r1, 0x1)] [(.r1, 0xffffffff)] 1 &&
      goes [0x8401000000000000] [(.r1, 0x80000000)] [(.r1, 0x80000000)] 1 &&
      goes [0xb4010000ffffffff] [] [(.r1, 0xffffffff)] 1 &&
      goes [0xbc22000000000000] [(.r2, 0x123456789abcdef0)] [(.r2, 0x9abcdef0)] 1 &&
      goes [0xbc21080000000000] [(.r2, 0x7f)] [(.r1, 0x7f), (.r2, 0x7f)] 1 &&
      goes [0xbc21100000000000] [(.r2, 0xffff8000)] [(.r1, 0xffff8000), (.r2, 0xffff8000)] 1) = true := by decide +kernel

/-- Vectors: V70, V71, V72, V73, V74, V75, V76, V77, V78, V79, V80, V81, V82, V83, V84, V85, V86, V87, V88, V89,
V90, V91, V92. -/
theorem test_vectors_64_bit_arithmetic :
    (goes [0x0f21000000000000] [(.r1, 0xffffffffffffffff), (.r2, 0x1)] [(.r1, 0x0), (.r2, 0x1)] 1 &&
      goes [0x1701000001000000] [(.r1, 0x0)] [(.r1, 0xffffffffffffffff)] 1 &&
      goes [0x2f21000000000000] [(.r1, 0x100000000), (.r2, 0x100000000)] [(.r1, 0x0), (.r2, 0x100000000)] 1 &&
      goes [0x27010000feffffff] [(.r1, 0x3)] [(.r1, 0xfffffffffffffffa)] 1 &&
      goes [0x37010000ffffffff] [(.r1, 0xfffffffffffffffe)] [(.r1, 0x0)] 1 &&
      goes [0x97010000ffffffff] [(.r1, 0xfffffffffffffffe)] [(.r1, 0xfffffffffffffffe)] 1 &&
      goes [0x3f21000000000000] [(.r1, 0xffffffffffffffff), (.r2, 0x2)] [(.r1, 0x7fffffffffffffff), (.r2, 0x2)] 1 &&
      goes [0x3f21010000000000] [(.r1, 0xffffffffffffffff), (.r2, 0x2)] [(.r1, 0x0), (.r2, 0x2)] 1 &&
      goes [0x3f21010000000000] [(.r1, 0x8000000000000000), (.r2, 0xffffffffffffffff)] [(.r1, 0x8000000000000000), (.r2, 0xffffffffffffffff)] 1 &&
      goes [0x9f21010000000000] [(.r1, 0x8000000000000000), (.r2, 0xffffffffffffffff)] [(.r1, 0x0), (.r2, 0xffffffffffffffff)] 1 &&
      goes [0x4701000000000080] [(.r1, 0x0)] [(.r1, 0xffffffff80000000)] 1 &&
      goes [0x57010000f0ffffff] [(.r1, 0x123456789abcdef0)] [(.r1, 0x123456789abcdef0)] 1 &&
      goes [0x670100003f000000] [(.r1, 0x1)] [(.r1, 0x8000000000000000)] 1 &&
      goes [0x6f21000000000000] [(.r1, 0x1), (.r2, 0x40)] [(.r1, 0x1), (.r2, 0x40)] 1 &&
      goes [0x7f21000000000000] [(.r1, 0x8000000000000000), (.r2, 0x47)] [(.r1, 0x100000000000000), (.r2, 0x47)] 1 &&
      goes [0xc70100003f000000] [(.r1, 0x8000000000000000)] [(.r1, 0xffffffffffffffff)] 1 &&
      goes [0x8701000000000000] [(.r1, 0x1)] [(.r1, 0xffffffffffffffff)] 1 &&
      goes [0x8701000000000000] [(.r1, 0x8000000000000000)] [(.r1, 0x8000000000000000)] 1 &&
      goes [0xb7010000ffffffff] [] [(.r1, 0xffffffffffffffff)] 1 &&
      goes [0xbf21000000000000] [(.r2, 0x123456789abcdef0)] [(.r1, 0x123456789abcdef0), (.r2, 0x123456789abcdef0)] 1 &&
      goes [0xbf21080000000000] [(.r2, 0x180)] [(.r1, 0xffffffffffffff80), (.r2, 0x180)] 1 &&
      goes [0xbf21100000000000] [(.r2, 0x7fff)] [(.r1, 0x7fff), (.r2, 0x7fff)] 1 &&
      goes [0xbf21200000000000] [(.r2, 0x180000000)] [(.r1, 0xffffffff80000000), (.r2, 0x180000000)] 1) = true := by decide +kernel

/-- Vectors: V95, V96, V97, V98, V99, V100, V101, V102, V103, V105, V106, V107, V109, V110. -/
theorem test_vectors_byte_swap :
    (goes [0xd401000020000000] [(.r1, 0x102030405060708)] [(.r1, 0x5060708)] 1 &&
      goesBig [0xd410000000000020] [(.r1, 0x102030405060708)] [(.r1, 0x8070605)] 1 &&
      goes [0xd401000040000000] [(.r1, 0x102030405060708)] [(.r1, 0x102030405060708)] 1 &&
      goesBig [0xd410000000000040] [(.r1, 0x102030405060708)] [(.r1, 0x807060504030201)] 1 &&
      goes [0xdc01000010000000] [(.r1, 0x102030405060708)] [(.r1, 0x807)] 1 &&
      goesBig [0xdc10000000000010] [(.r1, 0x102030405060708)] [(.r1, 0x708)] 1 &&
      goes [0xdc01000020000000] [(.r1, 0x102030405060708)] [(.r1, 0x8070605)] 1 &&
      goesBig [0xdc10000000000020] [(.r1, 0x102030405060708)] [(.r1, 0x5060708)] 1 &&
      goes [0xdc01000040000000] [(.r1, 0x102030405060708)] [(.r1, 0x807060504030201)] 1 &&
      goes [0xd701000010000000] [(.r1, 0x102030405060708)] [(.r1, 0x807)] 1 &&
      goesBig [0xd710000000000010] [(.r1, 0x102030405060708)] [(.r1, 0x807)] 1 &&
      goes [0xd701000020000000] [(.r1, 0x102030405060708)] [(.r1, 0x8070605)] 1 &&
      goes [0xd701000040000000] [(.r1, 0x102030405060708)] [(.r1, 0x807060504030201)] 1 &&
      goesBig [0xd710000000000040] [(.r1, 0x102030405060708)] [(.r1, 0x807060504030201)] 1) = true := by decide +kernel

/-- Vectors: V111, V112, V115, V116, V117, V118, V119, V120, V121, V122, V123, V124, V125, V126, V127, V128, V129,
V130, V131, V132. -/
theorem test_vectors_jumps :
    (goes [0x0500000000000000] [] [] 1 &&
      goesAt 5 [0x0500ffff00000000] [] [] 5 &&
      goesAt 5 [0x06000000feffffff] [] [] 4 &&
      goes [0x15010200ffffffff] [(.r1, 0xffffffffffffffff)] [(.r1, 0xffffffffffffffff)] 3 &&
      goes [0x16010200ffffffff] [(.r1, 0x1ffffffff)] [(.r1, 0x1ffffffff)] 3 &&
      goes [0x1d21020000000000] [(.r1, 0x1ffffffff), (.r2, 0xffffffff)] [(.r1, 0x1ffffffff), (.r2, 0xffffffff)] 1 &&
      goes [0x25010200ffffffff] [(.r1, 0x1)] [(.r1, 0x1)] 1 &&
      goes [0x65010200ffffffff] [(.r1, 0x1)] [(.r1, 0x1)] 3 &&
      goes [0x2e21020000000000] [(.r1, 0x80000000), (.r2, 0x7fffffff)] [(.r1, 0x80000000), (.r2, 0x7fffffff)] 3 &&
      goes [0x6e21020000000000] [(.r1, 0x80000000), (.r2, 0x7fffffff)] [(.r1, 0x80000000), (.r2, 0x7fffffff)] 1 &&
      goes [0x3d21020000000000] [(.r1, 0x7), (.r2, 0x7)] [(.r1, 0x7), (.r2, 0x7)] 3 &&
      goes [0xad21020000000000] [(.r1, 0x7), (.r2, 0x7)] [(.r1, 0x7), (.r2, 0x7)] 1 &&
      goes [0xb601020007000000] [(.r1, 0x7)] [(.r1, 0x7)] 3 &&
      goes [0xc501020000000000] [(.r1, 0x8000000000000000)] [(.r1, 0x8000000000000000)] 3 &&
      goes [0xde21020000000000] [(.r1, 0xffffffff), (.r2, 0xffffffff)] [(.r1, 0xffffffff), (.r2, 0xffffffff)] 3 &&
      goes [0x7501020000000080] [(.r1, 0x0)] [(.r1, 0x0)] 3 &&
      goes [0x45010200ffffffff] [(.r1, 0x100000000)] [(.r1, 0x100000000)] 3 &&
      goes [0x46010200ffffffff] [(.r1, 0x100000000)] [(.r1, 0x100000000)] 1 &&
      goes [0x5d11020000000000] [(.r1, 0x5)] [(.r1, 0x5)] 1 &&
      goesAt 3 [0x5601feff04000000] [(.r1, 0x5)] [(.r1, 0x5)] 2) = true := by decide +kernel

/-- Vectors: V137, V138. -/
theorem test_vectors_calls_and_exit :
    (faults [0x8500000008000000] [(.r1, 0x28), (.r2, 0x2)] (.unknownHelper .staticId 8) &&
      faults [0x8520000007000000] [(.r1, 0x28), (.r2, 0x2)] (.unknownHelper .btfId 7)) = true := by decide +kernel

/-- Vectors: V140, V141, V142, V144, V145, V146, V147, V148, V149, V150, V152, V153, V157, V158, V159, V160, V161,
V162, V163, V164, V165, V170, V172. -/
theorem test_vectors_loads_and_stores :
    (goes [0x7121000000000000] [(.r2, 0x1000)] [(.r1, 0x88), (.r2, 0x1000)] 1 &&
      stores .big 0x7112000000000000 [(.r2, 0x1000)] [(.r1, 0x88), (.r2, 0x1000)] 0x8899aabbccddeeff0102030405060708 &&
      goes [0x6921000000000000] [(.r2, 0x1000)] [(.r1, 0x9988), (.r2, 0x1000)] 1 &&
      goes [0x6121000000000000] [(.r2, 0x1000)] [(.r1, 0xbbaa9988), (.r2, 0x1000)] 1 &&
      stores .big 0x6112000000000000 [(.r2, 0x1000)] [(.r1, 0x8899aabb), (.r2, 0x1000)] 0x8899aabbccddeeff0102030405060708 &&
      goes [0x7921000000000000] [(.r2, 0x1000)] [(.r1, 0xffeeddccbbaa9988), (.r2, 0x1000)] 1 &&
      stores .big 0x7912000000000000 [(.r2, 0x1000)] [(.r1, 0x8899aabbccddeeff), (.r2, 0x1000)] 0x8899aabbccddeeff0102030405060708 &&
      goes [0x9121000000000000] [(.r2, 0x1000)] [(.r1, 0xffffffffffffff88), (.r2, 0x1000)] 1 &&
      goes [0x9121080000000000] [(.r2, 0x1000)] [(.r1, 0x1), (.r2, 0x1000)] 1 &&
      goes [0x8921000000000000] [(.r2, 0x1000)] [(.r1, 0xffffffffffff9988), (.r2, 0x1000)] 1 &&
      goes [0x8121000000000000] [(.r2, 0x1000)] [(.r1, 0xffffffffbbaa9988), (.r2, 0x1000)] 1 &&
      goes [0x8121080000000000] [(.r2, 0x1000)] [(.r1, 0x4030201), (.r2, 0x1000)] 1 &&
      stores .little 0x72010f00cdab3412 [(.r1, 0x1000)] [(.r1, 0x1000)] 0x8899aabbccddeeff01020304050607cd &&
      stores .little 0x6201040001000080 [(.r1, 0x1000)] [(.r1, 0x1000)] 0x8899aabb010000800102030405060708 &&
      stores .little 0x7a01080001000080 [(.r1, 0x1000)] [(.r1, 0x1000)] 0x8899aabbccddeeff01000080ffffffff &&
      stores .big 0x7a10000880000001 [(.r1, 0x1000)] [(.r1, 0x1000)] 0x8899aabbccddeeffffffffff80000001 &&
      stores .little 0x7321010000000000 [(.r1, 0x1000), (.r2, 0x1122334455667788)] [(.r1, 0x1000), (.r2, 0x1122334455667788)] 0x8888aabbccddeeff0102030405060708 &&
      stores .little 0x6b21020000000000 [(.r1, 0x1000), (.r2, 0x1122334455667788)] [(.r1, 0x1000), (.r2, 0x1122334455667788)] 0x88998877ccddeeff0102030405060708 &&
      stores .big 0x6b12000200000000 [(.r1, 0x1000), (.r2, 0x1122334455667788)] [(.r1, 0x1000), (.r2, 0x1122334455667788)] 0x88997788ccddeeff0102030405060708 &&
      stores .little 0x7b21000000000000 [(.r1, 0x1000), (.r2, 0x1122334455667788)] [(.r1, 0x1000), (.r2, 0x1122334455667788)] 0x88776655443322110102030405060708 &&
      stores .little 0x7b11080000000000 [(.r1, 0x1000)] [(.r1, 0x1000)] 0x8899aabbccddeeff0010000000000000 &&
      faults [0x6321fcff00000000] [(.r1, 0x0), (.r2, 0x1)] (.memFault 0xfffffffffffffffc .w .write) &&
      faults [0x7321000000000000] [(.r1, 0x1000)] (.uninitRegister .r2)) = true := by decide +kernel

/-- Vectors: V173, V174, V175, V176, V177, V178, V179, V180, V181, V182, V183, V184, V185, V186, V187, V188, V189,
V190, V192, V193, V194, V198. -/
theorem test_vectors_atomic_operations :
    (stores .little 0xc321080000000000 [(.r1, 0x1000), (.r2, 0xf0f0f0f00f0f0f0f)] [(.r1, 0x1000), (.r2, 0xf0f0f0f00f0f0f0f)] 0x8899aabbccddeeff1011121305060708 &&
      stores .little 0xc321080001000000 [(.r1, 0x1000), (.r2, 0xf0f0f0f00f0f0f0f)] [(.r1, 0x1000), (.r2, 0x4030201)] 0x8899aabbccddeeff1011121305060708 &&
      stores .little 0xc321080040000000 [(.r1, 0x1000), (.r2, 0xf0f0f0f00f0f0f0f)] [(.r1, 0x1000), (.r2, 0xf0f0f0f00f0f0f0f)] 0x8899aabbccddeeff0f0f0f0f05060708 &&
      stores .little 0xc321080041000000 [(.r1, 0x1000), (.r2, 0xf0f0f0f00f0f0f0f)] [(.r1, 0x1000), (.r2, 0x4030201)] 0x8899aabbccddeeff0f0f0f0f05060708 &&
      goes [0xc321080050000000] [(.r1, 0x1000), (.r2, 0xf0f0f0f00f0f0f0f)] [(.r1, 0x1000), (.r2, 0xf0f0f0f00f0f0f0f)] 1 &&
      goes [0xc321080051000000] [(.r1, 0x1000), (.r2, 0xf0f0f0f00f0f0f0f)] [(.r1, 0x1000), (.r2, 0x4030201)] 1 &&
      stores .little 0xc3210800a0000000 [(.r1, 0x1000), (.r2, 0xf0f0f0f00f0f0f0f)] [(.r1, 0x1000), (.r2, 0xf0f0f0f00f0f0f0f)] 0x8899aabbccddeeff0e0d0c0b05060708 &&
      stores .little 0xc3210800a1000000 [(.r1, 0x1000), (.r2, 0xf0f0f0f00f0f0f0f)] [(.r1, 0x1000), (.r2, 0x4030201)] 0x8899aabbccddeeff0e0d0c0b05060708 &&
      stores .little 0xc3210800e1000000 [(.r1, 0x1000), (.r2, 0xf0f0f0f00f0f0f0f)] [(.r1, 0x1000), (.r2, 0x4030201)] 0x8899aabbccddeeff0f0f0f0f05060708 &&
      stores .little 0xdb21080000000000 [(.r1, 0x1000), (.r2, 0xf0f0f0f00f0f0f0f)] [(.r1, 0x1000), (.r2, 0xf0f0f0f00f0f0f0f)] 0x8899aabbccddeeff10111213f5f6f7f8 &&
      stores .little 0xdb21080001000000 [(.r1, 0x1000), (.r2, 0xf0f0f0f00f0f0f0f)] [(.r1, 0x1000), (.r2, 0x807060504030201)] 0x8899aabbccddeeff10111213f5f6f7f8 &&
      stores .little 0xdb21080040000000 [(.r1, 0x1000), (.r2, 0xf0f0f0f00f0f0f0f)] [(.r1, 0x1000), (.r2, 0xf0f0f0f00f0f0f0f)] 0x8899aabbccddeeff0f0f0f0ff5f6f7f8 &&
      stores .little 0xdb21080041000000 [(.r1, 0x1000), (.r2, 0xf0f0f0f00f0f0f0f)] [(.r1, 0x1000), (.r2, 0x807060504030201)] 0x8899aabbccddeeff0f0f0f0ff5f6f7f8 &&
      stores .little 0xdb21080050000000 [(.r1, 0x1000), (.r2, 0xf0f0f0f00f0f0f0f)] [(.r1, 0x1000), (.r2, 0xf0f0f0f00f0f0f0f)] 0x8899aabbccddeeff0102030400000000 &&
      stores .little 0xdb21080051000000 [(.r1, 0x1000), (.r2, 0xf0f0f0f00f0f0f0f)] [(.r1, 0x1000), (.r2, 0x807060504030201)] 0x8899aabbccddeeff0102030400000000 &&
      stores .little 0xdb210800a0000000 [(.r1, 0x1000), (.r2, 0xf0f0f0f00f0f0f0f)] [(.r1, 0x1000), (.r2, 0xf0f0f0f00f0f0f0f)] 0x8899aabbccddeeff0e0d0c0bf5f6f7f8 &&
      stores .little 0xdb210800a1000000 [(.r1, 0x1000), (.r2, 0xf0f0f0f00f0f0f0f)] [(.r1, 0x1000), (.r2, 0x807060504030201)] 0x8899aabbccddeeff0e0d0c0bf5f6f7f8 &&
      stores .little 0xdb210800e1000000 [(.r1, 0x1000), (.r2, 0xf0f0f0f00f0f0f0f)] [(.r1, 0x1000), (.r2, 0x807060504030201)] 0x8899aabbccddeeff0f0f0f0ff0f0f0f0 &&
      stores .big 0xc312000000000001 [(.r1, 0x1000), (.r2, 0x1)] [(.r1, 0x1000), (.r2, 0x8899aabb)] 0x8899aabcccddeeff0102030405060708 &&
      stores .little 0xdb11080001000000 [(.r1, 0x1000)] [(.r1, 0x807060504030201)] 0x8899aabbccddeeff0112030405060708 &&
      goes [0xdb210800f1000000] [(.r0, 0x0), (.r1, 0x1000), (.r2, 0x5)] [(.r0, 0x807060504030201), (.r1, 0x1000), (.r2, 0x5)] 1 &&
      faults [0xdb211000e1000000] [(.r1, 0x1000), (.r2, 0x1)] (.memFault 0x1010 .dw .atomic)) = true := by decide +kernel

/-- Vectors: V201, V202, V203, V204, V205, V206, V207, V208. -/
theorem test_vectors_64_bit_immediates :
    (goes [0x1811000003000000, 0x0000000000000000] [] [(.r1, 0xa000)] 2 &&
      goes [0x1821000003000000, 0x0000000010000000] [] [(.r1, 0x20010)] 2 &&
      goes [0x1821000003000000, 0x00000000ffffffff] [] [(.r1, 0x10001ffff)] 2 &&
      goes [0x1831000009000000, 0x0000000000000000] [] [(.r1, 0x40000)] 2 &&
      goesAt 2 [0x1841000004000000, 0x0000000000000000] [] [(.r1, 0x50030)] 4 &&
      goes [0x1851000000000000, 0x0000000000000000] [] [(.r1, 0xb000)] 2 &&
      goes [0x1861000000000000, 0x0000000008000000] [] [(.r1, 0x30008)] 2 &&
      faults [0x1811000004000000, 0x0000000000000000] [] (.platformLookupFault .mapByFd (.imm 4))) = true := by decide +kernel

/-- Vectors: V210, V211, V212, V213, V214, V215, V216, V217, V218, V219, V220, V221, V222, V223, V224, V225, V226,
V227, V228, V229, V230, V231, V232, V233, V234, V238, V239, V240, V241, V242. -/
theorem test_vectors_decoding_and_faults :
    (faults [0x0000000000000000] [] (.illegalInstruction 0) &&
      faults [0x0701010005000000] [(.r1, 0x0)] (.illegalInstruction 0) &&
      faults [0x0731000005000000] [(.r1, 0x0), (.r3, 0x0)] (.illegalInstruction 0) &&
      faults [0x0f21000005000000] [(.r1, 0x0), (.r2, 0x0)] (.illegalInstruction 0) &&
      faults [0xb70b000005000000] [] (.illegalInstruction 0) &&
      faults [0xbfc1000000000000] [] (.illegalInstruction 0) &&
      faults [0x8f21000000000000] [(.r1, 0x0), (.r2, 0x0)] (.illegalInstruction 0) &&
      faults [0xdf01000010000000] [(.r1, 0x0)] (.illegalInstruction 0) &&
      faults [0xd401000018000000] [(.r1, 0x0)] (.illegalInstruction 0) &&
      faults [0x3701020005000000] [(.r1, 0x0)] (.illegalInstruction 0) &&
      faults [0xbc21200000000000] [(.r2, 0x0)] (.illegalInstruction 0) &&
      faults [0x8530000001000000] [] (.illegalInstruction 0) &&
      faults [0x8d10000000000000] [(.r1, 0x0)] (.illegalInstruction 0) &&
      faults [0x9500000001000000] [] (.illegalInstruction 0) &&
      faults [0xdb21000002000000] [(.r1, 0x1000), (.r2, 0x0)] (.illegalInstruction 0) &&
      faults [0xc3210000e0000000] [(.r1, 0x1000), (.r2, 0x0)] (.illegalInstruction 0) &&
      faults [0xd321000000000000] [(.r1, 0x1000), (.r2, 0x0)] (.illegalInstruction 0) &&
      goes [0x8921000000000000] [(.r2, 0x1000)] [(.r1, 0xffffffffffff9988), (.r2, 0x1000)] 1 &&
      faults [0x9921000000000000] [(.r2, 0x1000)] (.illegalInstruction 0) &&
      faults [0x1801000007000000] [] (.illegalInstruction 0) &&
      faults [0x1801000007000000, 0x0001000009000000] [] (.illegalInstruction 0) &&
      faults [0x1811000003000000, 0x0000000009000000] [] (.illegalInstruction 0) &&
      faults [0x1871000003000000, 0x0000000000000000] [] (.illegalInstruction 0) &&
      faults [0x1801010003000000, 0x0000000000000000] [] (.illegalInstruction 0) &&
      faults [0x2000000000000000] [] (.illegalInstruction 0) &&
      faults [0x0f21000000000000] [(.r2, 0x4)] (.uninitRegister .r1) &&
      faults [0x0f21000000000000] [(.r1, 0x4)] (.uninitRegister .r2) &&
      faults [0x0f21000000000000] [] (.uninitRegister .r1) &&
      faults [0x0f2b000000000000] [] (.illegalInstruction 0) &&
      faults [0x6321020000000000] [(.r1, 0x1000), (.r2, 0x0)] (.misaligned 0x1002 .w .write)) = true := by decide +kernel

/-- Instructions without a vector, calculated by hand from R102, R130, R134 to R137 and R143. -/
theorem test_alu_without_vector :
    (goes [0x1401000005000000] [(.r1, 0xffffffff00000003)] [(.r1, 0xfffffffe)] 1 &&
      goes [0x4c21000000000000] [(.r1, 0xffffffff000000f0), (.r2, 0xf0000000f)] [(.r1, 0xff), (.r2, 0xf0000000f)] 1 &&
      goes [0x54010000f0ffffff] [(.r1, 0xffffffff12345678)] [(.r1, 0x12345670)] 1 &&
      goes [0x7c21000000000000] [(.r1, 0xffffffff80000000), (.r2, 0x21)] [(.r1, 0x40000000), (.r2, 0x21)] 1 &&
      goes [0xac21000000000000] [(.r1, 0xffffffff0000ffff), (.r2, 0x1ff000000ff)] [(.r1, 0xff00), (.r2, 0x1ff000000ff)] 1 &&
      goes [0x1f21000000000000] [(.r1, 0x3), (.r2, 0x5)] [(.r1, 0xfffffffffffffffe), (.r2, 0x5)] 1 &&
      goes [0x4f21000000000000] [(.r1, 0xf000000000000000), (.r2, 0xf)] [(.r1, 0xf00000000000000f), (.r2, 0xf)] 1 &&
      goes [0x5f21000000000000] [(.r1, 0xff00000000000ff0), (.r2, 0xf0000000000000ff)] [(.r1, 0xf0000000000000f0), (.r2, 0xf0000000000000ff)] 1 &&
      goes [0x7701000041000000] [(.r1, 0x8000000000000002)] [(.r1, 0x4000000000000001)] 1 &&
      goes [0xaf21000000000000] [(.r1, 0xff000000000000ff), (.r2, 0xf0000000000000f)] [(.r1, 0xf0000000000000f0), (.r2, 0xf0000000000000f)] 1 &&
      goes [0xcf21000000000000] [(.r1, 0x8000000000000000), (.r2, 0x7f)] [(.r1, 0xffffffffffffffff), (.r2, 0x7f)] 1) = true := by decide +kernel

/-- Jumps without a vector: a negative (unsigned: large) left operand against 5, then 5 against 5, from the
condition table of R201. -/
theorem test_jump_without_vector :
    (goes [0x2d21030000000000] [(.r1, 0x8000000080000000), (.r2, 0x5)] [(.r1, 0x8000000080000000), (.r2, 0x5)] 4 &&
      goes [0x2d21030000000000] [(.r1, 0x5), (.r2, 0x5)] [(.r1, 0x5), (.r2, 0x5)] 1 &&
      goes [0x3501030005000000] [(.r1, 0x8000000080000000)] [(.r1, 0x8000000080000000)] 4 &&
      goes [0x3501030005000000] [(.r1, 0x5)] [(.r1, 0x5)] 4 &&
      goes [0x4d21030000000000] [(.r1, 0x8000000080000000), (.r2, 0x5)] [(.r1, 0x8000000080000000), (.r2, 0x5)] 1 &&
      goes [0x4d21030000000000] [(.r1, 0x5), (.r2, 0x5)] [(.r1, 0x5), (.r2, 0x5)] 4 &&
      goes [0x5501030005000000] [(.r1, 0x8000000080000000)] [(.r1, 0x8000000080000000)] 4 &&
      goes [0x5501030005000000] [(.r1, 0x5)] [(.r1, 0x5)] 1 &&
      goes [0x6d21030000000000] [(.r1, 0x8000000080000000), (.r2, 0x5)] [(.r1, 0x8000000080000000), (.r2, 0x5)] 1 &&
      goes [0x6d21030000000000] [(.r1, 0x5), (.r2, 0x5)] [(.r1, 0x5), (.r2, 0x5)] 1 &&
      goes [0x7d21030000000000] [(.r1, 0x8000000080000000), (.r2, 0x5)] [(.r1, 0x8000000080000000), (.r2, 0x5)] 1 &&
      goes [0x7d21030000000000] [(.r1, 0x5), (.r2, 0x5)] [(.r1, 0x5), (.r2, 0x5)] 4 &&
      goes [0xa501030005000000] [(.r1, 0x8000000080000000)] [(.r1, 0x8000000080000000)] 1 &&
      goes [0xa501030005000000] [(.r1, 0x5)] [(.r1, 0x5)] 1 &&
      goes [0xbd21030000000000] [(.r1, 0x8000000080000000), (.r2, 0x5)] [(.r1, 0x8000000080000000), (.r2, 0x5)] 1 &&
      goes [0xbd21030000000000] [(.r1, 0x5), (.r2, 0x5)] [(.r1, 0x5), (.r2, 0x5)] 4 &&
      goes [0xcd21030000000000] [(.r1, 0x8000000080000000), (.r2, 0x5)] [(.r1, 0x8000000080000000), (.r2, 0x5)] 4 &&
      goes [0xcd21030000000000] [(.r1, 0x5), (.r2, 0x5)] [(.r1, 0x5), (.r2, 0x5)] 1 &&
      goes [0xd501030005000000] [(.r1, 0x8000000080000000)] [(.r1, 0x8000000080000000)] 4 &&
      goes [0xd501030005000000] [(.r1, 0x5)] [(.r1, 0x5)] 4 &&
      goes [0xdd21030000000000] [(.r1, 0x8000000080000000), (.r2, 0x5)] [(.r1, 0x8000000080000000), (.r2, 0x5)] 4 &&
      goes [0xdd21030000000000] [(.r1, 0x5), (.r2, 0x5)] [(.r1, 0x5), (.r2, 0x5)] 4 &&
      goes [0x1e21030000000000] [(.r1, 0x80000000), (.r2, 0x5)] [(.r1, 0x80000000), (.r2, 0x5)] 1 &&
      goes [0x1e21030000000000] [(.r1, 0x5), (.r2, 0x5)] [(.r1, 0x5), (.r2, 0x5)] 4 &&
      goes [0x2601030005000000] [(.r1, 0x80000000)] [(.r1, 0x80000000)] 4 &&
      goes [0x2601030005000000] [(.r1, 0x5)] [(.r1, 0x5)] 1 &&
      goes [0x3601030005000000] [(.r1, 0x80000000)] [(.r1, 0x80000000)] 4 &&
      goes [0x3601030005000000] [(.r1, 0x5)] [(.r1, 0x5)] 4 &&
      goes [0x3e21030000000000] [(.r1, 0x80000000), (.r2, 0x5)] [(.r1, 0x80000000), (.r2, 0x5)] 4 &&
      goes [0x3e21030000000000] [(.r1, 0x5), (.r2, 0x5)] [(.r1, 0x5), (.r2, 0x5)] 4 &&
      goes [0x4e21030000000000] [(.r1, 0x80000000), (.r2, 0x5)] [(.r1, 0x80000000), (.r2, 0x5)] 1 &&
      goes [0x4e21030000000000] [(.r1, 0x5), (.r2, 0x5)] [(.r1, 0x5), (.r2, 0x5)] 4 &&
      goes [0x5e21030000000000] [(.r1, 0x80000000), (.r2, 0x5)] [(.r1, 0x80000000), (.r2, 0x5)] 4 &&
      goes [0x5e21030000000000] [(.r1, 0x5), (.r2, 0x5)] [(.r1, 0x5), (.r2, 0x5)] 1 &&
      goes [0x6601030005000000] [(.r1, 0x80000000)] [(.r1, 0x80000000)] 1 &&
      goes [0x6601030005000000] [(.r1, 0x5)] [(.r1, 0x5)] 1 &&
      goes [0x7601030005000000] [(.r1, 0x80000000)] [(.r1, 0x80000000)] 1 &&
      goes [0x7601030005000000] [(.r1, 0x5)] [(.r1, 0x5)] 4 &&
      goes [0xa601030005000000] [(.r1, 0x80000000)] [(.r1, 0x80000000)] 1 &&
      goes [0xa601030005000000] [(.r1, 0x5)] [(.r1, 0x5)] 1 &&
      goes [0xae21030000000000] [(.r1, 0x80000000), (.r2, 0x5)] [(.r1, 0x80000000), (.r2, 0x5)] 1 &&
      goes [0xae21030000000000] [(.r1, 0x5), (.r2, 0x5)] [(.r1, 0x5), (.r2, 0x5)] 1 &&
      goes [0xbe21030000000000] [(.r1, 0x80000000), (.r2, 0x5)] [(.r1, 0x80000000), (.r2, 0x5)] 1 &&
      goes [0xbe21030000000000] [(.r1, 0x5), (.r2, 0x5)] [(.r1, 0x5), (.r2, 0x5)] 4 &&
      goes [0xc601030005000000] [(.r1, 0x80000000)] [(.r1, 0x80000000)] 4 &&
      goes [0xc601030005000000] [(.r1, 0x5)] [(.r1, 0x5)] 1 &&
      goes [0xce21030000000000] [(.r1, 0x80000000), (.r2, 0x5)] [(.r1, 0x80000000), (.r2, 0x5)] 4 &&
      goes [0xce21030000000000] [(.r1, 0x5), (.r2, 0x5)] [(.r1, 0x5), (.r2, 0x5)] 1 &&
      goes [0xd601030005000000] [(.r1, 0x80000000)] [(.r1, 0x80000000)] 4 &&
      goes [0xd601030005000000] [(.r1, 0x5)] [(.r1, 0x5)] 4) = true := by decide +kernel

/-! ## Single vectors with a setting of their own -/

/-- V133 and V134: a program-local call and the return. -/
theorem test_vector_call_and_return :
    (let s := before .little 1 [0x8510000002000000] []
     stepsTo s { s with pc := 4, cs := [⟨2, none⟩] } &&
     let u := { before .little 0 [0x9500000000000000] [] with cs := [⟨7, none⟩] }
     stepsTo u { u with pc := 7, cs := [] }) = true := by decide +kernel

/-- V135: EXIT with an empty call stack ends the run and reads no register. -/
theorem test_vector_exit :
    (let s := before .little 0 [0x9500000000000000] []
     stepsTo s { s with st := .exited }) = true := by decide +kernel

/-- V136: a helper call, with the vector's made-up helper as the reply. -/
theorem test_vector_helper :
    (let after := regsOf [(.r0, 0x2a), (.r1, 0x28), (.r2, 2)]
     let s := { before .little 0 [0x8500000007000000] [(.r1, 0x28), (.r2, 2)] with replies := [.done after []] }
     stepsTo s { s with regs := after, pc := 1, replies := [], freeCount := 1 }) = true := by decide +kernel

/-- V167 and V168 with STRICT_ALIGN = false (V168 under the default would meet the alignment check first), and
V196: a misaligned atomic faults all the same. -/
theorem test_vector_without_strict_alignment :
    (let loose (s : State) : State := { s with plat := { s.plat with strictAlign := false } }
     let s := loose (before .little 0 [0x6121020000000000] [(.r2, 0x1000)])
     stepsTo s { s with regs := regsOf [(.r1, 0xddccbbaa), (.r2, 0x1000)], pc := 1 } &&
     let u := loose (before .little 0 [0x61210e0000000000] [(.r2, 0x1000)])
     stepsTo u { u with st := .faulted (.memFault 0x100e .w .read) 0 } &&
     let v := loose (before .little 0 [0xc321020000000000] [(.r1, 0x1000), (.r2, 1)])
     stepsTo v { v with st := .faulted (.misaligned 0x1002 .w .atomic) 0 }) = true := by decide +kernel

/-- V209: no platform functions at all. -/
theorem test_vector_no_platform_functions :
    (let s := { before .little 0 [0x1831000009000000, 0] [] with plat := defaultPlatform }
     stepsTo s { s with st := .faulted (.platformLookupFault .varAddr (.imm 9)) 0 }) = true := by decide +kernel

/-- V235 to V237: the supported groups. -/
theorem test_vector_groups :
    (let only (gs : List Group) (s : State) : State := { s with plat := { s.plat with groups := gs } }
     let x : List (RegIdx × Word) := [(.r1, 3), (.r2, 4)]
     let s := only [.base32, .base64] (before .little 0 [0x2f21000000000000] x)
     stepsTo s { s with st := .faulted (.illegalInstruction 0) 0 } &&
     let u := only [.base32] (before .little 0 [0x0f21000000000000] x)
     stepsTo u { u with st := .faulted (.illegalInstruction 0) 0 } &&
     let v := only [.base32] (before .little 0 [0x0c21000000000000] x)
     stepsTo v { v with regs := regsOf [(.r1, 7), (.r2, 4)], pc := 1 }) = true := by decide +kernel

/-- R262, R264 under CALL_FRAME = saved: x[6] comes back as it was, x[10] unwritten again, x[0] as the callee
left it (hand calculation). -/
theorem test_saved_frame_restored :
    (let s := { before .little 0 [0x9500000000000000] [(.r0, 1), (.r6, 2), (.r10, 3)] with
        plat := { vecPlat .little with callFrame := .saved }
        cs := [⟨7, some ⟨.val 9, .unwritten, .unwritten, .unwritten, .unwritten⟩⟩] }
     stepsTo s { s with regs := regsOf [(.r0, 1), (.r6, 9)], pc := 7, cs := [] }) = true := by decide +kernel

/-- R53: ENV fires before the instruction and changes the shared byte alone (hand calculation: the load of
the shared byte sees it). -/
theorem test_env_before_instruction :
    (let s := { before .little 0 [0x7121000000000000] [(.r2, 0x1000)] with
        plat := { vecPlat .little with shared := [⟨0x1000, 1⟩] }
        env := [[(0x1000, 0x42), (0x1001, 0x43)]] }
     stepsTo s { s with
        regs := regsOf [(.r1, 0x42), (.r2, 0x1000)], pc := 1, env := []
        mem := memHex 0x4299aabbccddeeff0102030405060708 }) = true := by decide +kernel

/-- R409: at MAX_CALL_DEPTH a call faults (the last step of V139). -/
theorem test_call_depth :
    (let s := { before .little 0 [0x85100000ffffffff] [] with cs := List.replicate 8 ⟨1, none⟩ }
     stepsTo s { s with st := .faulted (.callDepthExceeded 0) 0 }) = true := by decide +kernel

/-! ## Well-formedness and the decoder's rejections -/

/-- The second slot of a wide instruction is no instruction of its own (R349): the one ill-formed term. -/
theorem test_wf_refuses_second_slot : Instr.wf (.imm64SecondSlot 5) = false := by decide

/-- What the decoder answers to a slot (and the one after it), all groups supported. -/
def rejects (h : Nat) (after : Option Nat) (why : Reject) : Bool :=
  match decode .little allGroups (slotHex h) (after.map slotHex) with
  | .ok _ => false
  | .error r => decide (r = why)

/-- Opcode bytes the tables do not list (R86, R87): 0x00, NEG with the source bit, CALL with X. -/
theorem test_reject_opcode :
    (rejects 0 none .reservedOpcode && rejects 0x8f21000000000000 none .reservedOpcode &&
      rejects 0x8d10000000000000 none .reservedOpcode) = true := by decide
/-- END with imm 24, CALL with source 3, the wide load with source 7, ADD64_K with offset 1 (R87). -/
theorem test_reject_selector :
    (rejects 0xd401000018000000 none .reservedSelector && rejects 0x8530000000000000 none .reservedSelector &&
      rejects 0x1871000000000000 (some 0) .reservedSelector && rejects 0x0701010000000000 none .reservedSelector) = true := by decide
/-- ADD64_K with a source register (V212), EXIT with an imm (V223; R84). -/
theorem test_reject_unused :
    (rejects 0x0731000000000000 none .unusedField && rejects 0x9500000001000000 none .unusedField) = true := by decide
/-- MOV64_K with destination 11, MOV64_X with source 12 (R88). -/
theorem test_reject_register :
    (rejects 0xb70b000000000000 none .badRegister && rejects 0xbfc1000000000000 none .badRegister) = true := by decide
/-- A wide instruction in the last slot (R85 step 5). -/
theorem test_reject_truncated : rejects 0x1801000000000000 none .truncatedWide = true := by decide
/-- A second slot with a register field, and a next_imm that LDDW_MAP_FD does not use (R77, R87). -/
theorem test_reject_second_slot :
    (rejects 0x1801000000000000 (some 0x0001000000000000) .badSecondSlot &&
      rejects 0x1811000000000000 (some 0x0000000009000000) .badSecondSlot) = true := by decide
/-- A packet instruction without the packet group (R85 step 6). -/
theorem test_reject_group :
    (match decode .little [.base64] (slotHex 0x2000000000000000) none with
      | .error .unsupportedGroup => true
      | _ => false) = true := by decide
/-- Seven bytes hold no slot. -/
theorem test_reject_no_slot :
    (match decodeBytes .little allGroups [0x95, 0, 0, 0, 0, 0, 0] with
      | .error .noSlot => true
      | _ => false) = true := by decide

/-- The table's numbering (bit 0 the lowest bit of the first word) through the decoder: ADD64_K, LDDW_IMM. -/
theorem test_decodeTableWord :
    decodeTableWord 64 0x1122334400000107 = some (.add64K .r1 0x11223344) ∧
    decodeTableWord 128 0x1122334400000000556677880000 = none ∧
    decodeTableWord 128 0x11223344000000005566778800000118 = some (.lddwImm .r1 0x55667788 0x11223344) := by decide

/-- An instruction placed after reset is the one the next step runs. -/
theorem test_withFetchWord :
    (stepsTo (State.reset.withFetchWord 64 0x1122334400000107)
      (wrote (State.reset.withFetchWord 64 0x1122334400000107) .r1 0x11223344)) = true := by decide +kernel

/-! ## Witnesses: hypotheses that can be met -/

/-- A state most witnesses use: r0 to r3 written, r4 to r10 not, pc 0. -/
def demo (e : Endian) : State :=
  before e 0 [0x0701000044332211] [(.r0, 0x04030201), (.r1, 0x1000), (.r2, 0x8000000000000005), (.r3, 0)]

/-- The demo state with a call stack. -/
def deep (f : CallFrame) (cs : List Frame) : State :=
  { demo .little with plat := { vecPlat .little with callFrame := f }, cs := cs }

/-- Five saved registers. -/
def kept : SavedRegs := ⟨.val 6, .unwritten, .val 8, .unwritten, .val 10⟩

theorem witness_Alu32AddSubMulNegResult :
    getReg (demo .little).regs .r1 = .val 0x1000 ∧ getReg (demo .little).regs .r2 = .val 0x8000000000000005 := by decide
theorem witness_Alu32BitwiseMoveResult :
    getReg (demo .little).regs .r2 = .val 0x8000000000000005 ∧ getReg (demo .little).regs .r2 = .val 0x8000000000000005 := by decide
theorem witness_Alu32UnsignedDivModResult :
    getReg (demo .little).regs .r1 = .val 0x1000 ∧ getReg (demo .little).regs .r3 = .val 0 := by decide
theorem witness_Alu32SignedDivModResult :
    getReg (demo .little).regs .r2 = .val 0x8000000000000005 ∧ getReg (demo .little).regs .r3 = .val 0 := by decide
theorem witness_Alu32ShiftResult :
    getReg (demo .little).regs .r2 = .val 0x8000000000000005 ∧ getReg (demo .little).regs .r1 = .val 0x1000 := by decide
theorem witness_Alu64AddSubMulNegResult :
    getReg (demo .big).regs .r1 = .val 0x1000 ∧ getReg (demo .big).regs .r2 = .val 0x8000000000000005 := by decide
theorem witness_Alu64BitwiseMoveResult :
    getReg (demo .big).regs .r2 = .val 0x8000000000000005 ∧ getReg (demo .big).regs .r1 = .val 0x1000 := by decide
theorem witness_Alu64UnsignedDivModResult :
    getReg (demo .big).regs .r2 = .val 0x8000000000000005 ∧ getReg (demo .big).regs .r3 = .val 0 := by decide
theorem witness_Alu64SignedDivModResult :
    getReg (demo .big).regs .r1 = .val 0x1000 ∧ getReg (demo .big).regs .r3 = .val 0 := by decide
theorem witness_Alu64ShiftResult :
    getReg (demo .big).regs .r1 = .val 0x1000 ∧ getReg (demo .big).regs .r2 = .val 0x8000000000000005 := by decide
theorem witness_Alu64ModByZeroUnchanged :
    getReg (demo .little).regs .r2 = .val 0x8000000000000005 ∧ getReg (demo .little).regs .r3 = .val 0 := by decide
theorem witness_Alu64ShiftCountMasked :
    getReg (demo .little).regs .r2 = .val 0x8000000000000005 ∧ getReg (demo .little).regs .r1 = .val 0x1000 := by decide
theorem witness_ByteSwapResult :
    (getReg (demo .little).regs .r2 = .val 0x8000000000000005 ∧ (demo .little).plat.endian = .little) ∧
    (getReg (demo .big).regs .r2 = .val 0x8000000000000005 ∧ (demo .big).plat.endian = .big) := by decide
theorem witness_ConditionalJump64Result :
    getReg (demo .little).regs .r2 = .val 0x8000000000000005 ∧ getReg (demo .little).regs .r1 = .val 0x1000 := by decide
theorem witness_ConditionalJump32Result :
    getReg (demo .little).regs .r1 = .val 0x1000 ∧ getReg (demo .little).regs .r3 = .val 0 := by decide

/-- The largest and the smallest displacement of the two unconditional jumps (R202, R206; hand calculation). -/
theorem witness_UnconditionalJumpTarget :
    exec (.ja 0x7fff) (demo .little) = .next (wentTo (demo .little) 32768) ∧
    exec (.ja 0x8000) (demo .little) = .next (wentTo (demo .little) (-32767)) ∧
    exec (.ja32 0x7fffffff) (demo .little) = .next (wentTo (demo .little) 2147483648) ∧
    exec (.ja32 0x80000000) (demo .little) = .next (wentTo (demo .little) (-2147483647)) := ⟨rfl, rfl, rfl, rfl⟩

/-- One frame below the limit of 8 under both kinds of frame, and at the limit. -/
theorem witness_CallLocalPushesFrame :
    ((∀ n, (deep .bare (List.replicate 7 ⟨1, none⟩)).plat.maxCallDepth = some n →
        (deep .bare (List.replicate 7 ⟨1, none⟩)).cs.length < n) ∧
      (deep .bare (List.replicate 7 ⟨1, none⟩)).plat.callFrame = .bare) ∧
    ((∀ n, (deep .saved (List.replicate 7 ⟨1, some kept⟩)).plat.maxCallDepth = some n →
        (deep .saved (List.replicate 7 ⟨1, some kept⟩)).cs.length < n) ∧
      (deep .saved (List.replicate 7 ⟨1, some kept⟩)).plat.callFrame = .saved) ∧
    ((deep .bare (List.replicate 8 ⟨1, none⟩)).plat.maxCallDepth = some 8 ∧
      8 ≤ (deep .bare (List.replicate 8 ⟨1, none⟩)).cs.length) :=
  ⟨⟨fun _ h => by cases h; decide, rfl⟩, ⟨fun _ h => by cases h; decide, rfl⟩, rfl, by decide⟩

theorem witness_ExitReturnsOrEndsRun :
    (deep .bare []).cs = [] ∧
    ((deep .bare [⟨7, none⟩]).cs = ⟨7, none⟩ :: [] ∧ (deep .bare [⟨7, none⟩]).plat.callFrame = .bare) ∧
    ((deep .saved [⟨7, some kept⟩]).cs = ⟨7, some kept⟩ :: [] ∧
      (deep .saved [⟨7, some kept⟩]).plat.callFrame = .saved) := by decide

/-- The state right after the call meets the inner hypotheses, under both kinds of frame. -/
theorem witness_CallThenExitReturns :
    ((∀ n, (deep .saved []).plat.maxCallDepth = some n → (deep .saved []).cs.length < n) ∧
      ∃ t, exec (.callLocal 2) (deep .saved []) = .next t ∧ ∃ u : State, u.plat = t.plat ∧ u.cs = t.cs) ∧
    ((∀ n, (deep .bare []).plat.maxCallDepth = some n → (deep .bare []).cs.length < n) ∧
      ∃ t, exec (.callLocal 2) (deep .bare []) = .next t ∧ ∃ u : State, u.plat = t.plat ∧ u.cs = t.cs) :=
  ⟨⟨fun _ h => by cases h; decide, _, rfl, _, rfl, rfl⟩, ⟨fun _ h => by cases h; decide, _, rfl, _, rfl, rfl⟩⟩

/-- The demo state with helpers of both kinds under id 7 and a tape of one reply. -/
def helping (r : HelperReply) : State :=
  { demo .little with
    plat := { vecPlat .little with helpers := [(.staticId, 7), (.btfId, 7)] }, replies := [r] }

theorem witness_HelperCallCompletes :
    ((.staticId, 7) ∈ (helping (.done noRegs [(5, 6)])).plat.helpers ∧
      nextReply (helping (.done noRegs [(5, 6)])) .staticId 7 = .done noRegs [(5, 6)]) ∧
    ((.btfId, 7) ∈ (helping (.done noRegs [(5, 6)])).plat.helpers ∧
      nextReply (helping (.done noRegs [(5, 6)])) .btfId 7 = .done noRegs [(5, 6)]) := by decide
theorem witness_HelperCallFaults :
    (.staticId, 8) ∉ (helping .fault).plat.helpers ∧ (.btfId, 6) ∉ (helping .fault).plat.helpers ∧
    ((.staticId, 7) ∈ (helping .fault).plat.helpers ∧ nextReply (helping .fault) .staticId 7 = .fault) ∧
    ((.btfId, 7) ∈ (helping .fault).plat.helpers ∧ nextReply (helping .fault) .btfId 7 = .fault) := by decide

/-- Misaligned; aligned and refused at the first byte past the grant; admitted at its last double word. -/
theorem witness_MemReadSteps :
    ((demo .little).plat.strictAlign = true ∧ (0x1001 : Word).toNat % sizeBytes .h ≠ 0) ∧
    (¬ ((demo .little).plat.strictAlign = true ∧ (0x1010 : Word).toNat % sizeBytes .dw ≠ 0) ∧
      memOK (demo .little).plat 0x1010 .dw .read = false) ∧
    (¬ ((demo .little).plat.strictAlign = true ∧ (0x1008 : Word).toNat % sizeBytes .dw ≠ 0) ∧
      memOK (demo .little).plat 0x1008 .dw .read = true) := by decide
theorem witness_MemWriteSteps :
    memoryWf (demo .big).mem = true ∧
    ((demo .big).plat.strictAlign = true ∧ (0x100a : Word).toNat % sizeBytes .w ≠ 0) ∧
    (¬ ((demo .big).plat.strictAlign = true ∧ (0x0fff : Word).toNat % sizeBytes .b ≠ 0) ∧
      memOK (demo .big).plat 0x0fff .b .write = false) ∧
    (¬ ((demo .big).plat.strictAlign = true ∧ (0x100f : Word).toNat % sizeBytes .b ≠ 0) ∧
      memOK (demo .big).plat 0x100f .b .write = true) := by decide
theorem witness_NarrowReadSeesWideStore :
    memoryWf (memHex mem0) = true ∧ 7 + sizeBytes .b ≤ sizeBytes .dw ∧ 0 + sizeBytes .dw ≤ sizeBytes .dw := by
  decide

/-- Every width is admitted at its last place inside the grant. -/
theorem witness_LoadZeroExtends :
    ((Instr.ldxdw .r0 .r1 8, Size.dw) ∈ ([(.ldxb .r0 .r1 8, .b), (.ldxh .r0 .r1 8, .h), (.ldxw .r0 .r1 8, .w),
        (.ldxdw .r0 .r1 8, .dw)] : List (Instr × Size)) ∧
      getReg (demo .little).regs .r1 = .val 0x1000 ∧ Admitted (demo .little) (effectiveAddress 0x1000 8) .dw .read) ∧
    Admitted (demo .little) (effectiveAddress 0x1000 0xc) .w .read ∧
    Admitted (demo .little) (effectiveAddress 0x1000 0xe) .h .read ∧
    Admitted (demo .little) (effectiveAddress 0x1000 0xf) .b .read := by unfold Admitted; decide
theorem witness_LoadSignExtends :
    ((Instr.ldxsh .r0 .r1 2, Size.h) ∈ ([(.ldxsb .r0 .r1 2, .b), (.ldxsh .r0 .r1 2, .h), (.ldxsw .r0 .r1 2, .w)] :
        List (Instr × Size)) ∧
      getReg (demo .big).regs .r1 = .val 0x1000 ∧ Admitted (demo .big) (effectiveAddress 0x1000 2) .h .read) ∧
    Admitted (demo .big) (effectiveAddress 0x1000 0xc) .w .read ∧
    Admitted (demo .big) (effectiveAddress 0x1000 0xf) .b .read := by unfold Admitted; decide
theorem witness_StoreImmediateWritesBytes :
    ((Instr.sth .r1 2 0xffff1234, Size.h) ∈ ([(.stb .r1 2 0xffff1234, .b), (.sth .r1 2 0xffff1234, .h),
        (.stw .r1 2 0xffff1234, .w), (.stdw .r1 2 0xffff1234, .dw)] : List (Instr × Size)) ∧
      memoryWf (demo .little).mem = true ∧ getReg (demo .little).regs .r1 = .val 0x1000 ∧
      Admitted (demo .little) (effectiveAddress 0x1000 2) .h .write) ∧
    Admitted (demo .little) (effectiveAddress 0x1000 0xf) .b .write ∧
    Admitted (demo .little) (effectiveAddress 0x1000 0xc) .w .write ∧
    Admitted (demo .little) (effectiveAddress 0x1000 8) .dw .write := by unfold Admitted; decide
theorem witness_StoreRegisterWritesBytes :
    ((Instr.stxdw .r1 .r2 8, Size.dw) ∈ ([(.stxb .r1 .r2 8, .b), (.stxh .r1 .r2 8, .h), (.stxw .r1 .r2 8, .w),
        (.stxdw .r1 .r2 8, .dw)] : List (Instr × Size)) ∧
      memoryWf (demo .little).mem = true ∧ getReg (demo .little).regs .r1 = .val 0x1000 ∧
      getReg (demo .little).regs .r2 = .val 0x8000000000000005 ∧
      Admitted (demo .little) (effectiveAddress 0x1000 8) .dw .write) ∧
    Admitted (demo .little) (effectiveAddress 0x1000 0xf) .b .write ∧
    Admitted (demo .little) (effectiveAddress 0x1000 0xe) .h .write ∧
    Admitted (demo .little) (effectiveAddress 0x1000 0xc) .w .write := by unfold Admitted; decide

/-- The hypotheses the four statements about atomics share, at both widths and both byte orders. -/
theorem witness_atomics :
    (memoryWf (demo .little).mem = true ∧ getReg (demo .little).regs .r1 = .val 0x1000 ∧
      getReg (demo .little).regs .r2 = .val 0x8000000000000005 ∧
      Admitted (demo .little) (effectiveAddress 0x1000 0xc) .w .atomic ∧
      Admitted (demo .little) (effectiveAddress 0x1000 8) .dw .atomic) ∧
    (memoryWf (demo .big).mem = true ∧ getReg (demo .big).regs .r1 = .val 0x1000 ∧
      getReg (demo .big).regs .r2 = .val 0x8000000000000005 ∧
      Admitted (demo .big) (effectiveAddress 0x1000 0xc) .w .atomic ∧
      Admitted (demo .big) (effectiveAddress 0x1000 8) .dw .atomic) := by unfold Admitted; decide
theorem witness_AtomicSimple32Result :
    (Instr.atomicAdd32 .r1 .r2 0xc, fun a b : BitVec 32 => a + b) ∈ ([(.atomicAdd32 .r1 .r2 0xc, (· + ·)),
      (.atomicOr32 .r1 .r2 0xc, (· ||| ·)), (.atomicAnd32 .r1 .r2 0xc, (· &&& ·)),
      (.atomicXor32 .r1 .r2 0xc, (· ^^^ ·))] : List (Instr × (BitVec 32 → BitVec 32 → BitVec 32))) ∧
    memoryWf (demo .little).mem = true ∧ getReg (demo .little).regs .r1 = .val 0x1000 ∧
    getReg (demo .little).regs .r2 = .val 0x8000000000000005 ∧
    Admitted (demo .little) (effectiveAddress 0x1000 0xc) .w .atomic :=
  ⟨.head _, witness_atomics.1.1, witness_atomics.1.2.1, witness_atomics.1.2.2.1, witness_atomics.1.2.2.2.1⟩
theorem witness_AtomicFetch32Result :
    (Instr.atomicFetchAdd32 .r1 .r2 0xc, fun a b : BitVec 32 => a + b) ∈ ([(.atomicFetchAdd32 .r1 .r2 0xc, (· + ·)),
      (.atomicFetchOr32 .r1 .r2 0xc, (· ||| ·)), (.atomicFetchAnd32 .r1 .r2 0xc, (· &&& ·)),
      (.atomicFetchXor32 .r1 .r2 0xc, (· ^^^ ·)), (.xchg32 .r1 .r2 0xc, fun _ v => v)] :
      List (Instr × (BitVec 32 → BitVec 32 → BitVec 32))) ∧
    memoryWf (demo .little).mem = true ∧ getReg (demo .little).regs .r1 = .val 0x1000 ∧
    getReg (demo .little).regs .r2 = .val 0x8000000000000005 ∧
    Admitted (demo .little) (effectiveAddress 0x1000 0xc) .w .atomic :=
  ⟨.head _, witness_atomics.1.1, witness_atomics.1.2.1, witness_atomics.1.2.2.1, witness_atomics.1.2.2.2.1⟩
theorem witness_AtomicSimple64Result :
    (Instr.atomicAdd64 .r1 .r2 8, fun a b : BitVec 64 => a + b) ∈ ([(.atomicAdd64 .r1 .r2 8, (· + ·)),
      (.atomicOr64 .r1 .r2 8, (· ||| ·)), (.atomicAnd64 .r1 .r2 8, (· &&& ·)),
      (.atomicXor64 .r1 .r2 8, (· ^^^ ·))] : List (Instr × (BitVec 64 → BitVec 64 → BitVec 64))) ∧
    memoryWf (demo .big).mem = true ∧ getReg (demo .big).regs .r1 = .val 0x1000 ∧
    getReg (demo .big).regs .r2 = .val 0x8000000000000005 ∧
    Admitted (demo .big) (effectiveAddress 0x1000 8) .dw .atomic :=
  ⟨.head _, witness_atomics.2.1, witness_atomics.2.2.1, witness_atomics.2.2.2.1, witness_atomics.2.2.2.2.2⟩
theorem witness_AtomicFetch64Result :
    (Instr.atomicFetchAdd64 .r1 .r2 8, fun a b : BitVec 64 => a + b) ∈ ([(.atomicFetchAdd64 .r1 .r2 8, (· + ·)),
      (.atomicFetchOr64 .r1 .r2 8, (· ||| ·)), (.atomicFetchAnd64 .r1 .r2 8, (· &&& ·)),
      (.atomicFetchXor64 .r1 .r2 8, (· ^^^ ·)), (.xchg64 .r1 .r2 8, fun _ v => v)] :
      List (Instr × (BitVec 64 → BitVec 64 → BitVec 64))) ∧
    memoryWf (demo .big).mem = true ∧ getReg (demo .big).regs .r1 = .val 0x1000 ∧
    getReg (demo .big).regs .r2 = .val 0x8000000000000005 ∧
    Admitted (demo .big) (effectiveAddress 0x1000 8) .dw .atomic :=
  ⟨.head _, witness_atomics.2.1, witness_atomics.2.2.1, witness_atomics.2.2.2.1, witness_atomics.2.2.2.2.2⟩
/-- The comparison matches at offset 8 (the bytes 01 02 03 04) and fails at offset 12. -/
theorem witness_CompareExchangeResult :
    memoryWf (demo .little).mem = true ∧ getReg (demo .little).regs .r1 = .val 0x1000 ∧
    getReg (demo .little).regs .r2 = .val 0x8000000000000005 ∧ getReg (demo .little).regs .r0 = .val 0x04030201 ∧
    Admitted (demo .little) (effectiveAddress 0x1000 8) .w .atomic ∧
    Admitted (demo .little) (effectiveAddress 0x1000 12) .w .atomic ∧
    Admitted (demo .little) (effectiveAddress 0x1000 8) .dw .atomic := by unfold Admitted; decide

/-- One case for each clause: loads, stores of an immediate, stores of a register, atomics, CMPXCHG. -/
theorem witness_MisalignedAccessFaults :
    getReg (demo .little).regs .r1 = .val 0x1000 ∧ getReg (demo .little).regs .r2 = .val 0x8000000000000005 ∧
    getReg (demo .little).regs .r0 = .val 0x04030201 ∧ (demo .little).plat.strictAlign = true ∧
    (Instr.ldxsh .r3 .r1 1, Size.h) ∈ ([(.ldxb .r3 .r1 1, .b), (.ldxh .r3 .r1 1, .h), (.ldxw .r3 .r1 1, .w),
      (.ldxdw .r3 .r1 1, .dw), (.ldxsb .r3 .r1 1, .b), (.ldxsh .r3 .r1 1, .h), (.ldxsw .r3 .r1 1, .w)] :
      List (Instr × Size)) ∧
    (effectiveAddress 0x1000 1).toNat % sizeBytes .h ≠ 0 ∧ (effectiveAddress 0x1000 2).toNat % sizeBytes .w ≠ 0 ∧
    (effectiveAddress 0x1000 4).toNat % sizeBytes .dw ≠ 0 := by decide
theorem witness_RefusedAccessFaults :
    getReg (demo .little).regs .r1 = .val 0x1000 ∧ getReg (demo .little).regs .r2 = .val 0x8000000000000005 ∧
    getReg (demo .little).regs .r0 = .val 0x04030201 ∧
    ((demo .little).plat.strictAlign = true → (effectiveAddress 0x1000 0x10).toNat % sizeBytes .dw = 0) ∧
    memOK (demo .little).plat (effectiveAddress 0x1000 0x10) .dw .read = false ∧
    memOK (demo .little).plat (effectiveAddress 0x1000 0x10) .b .write = false ∧
    (effectiveAddress 0x1000 0x10).toNat % sizeBytes .w = 0 ∧
    memOK (demo .little).plat (effectiveAddress 0x1000 0x10) .w .atomic = false ∧
    memOK (demo .little).plat (effectiveAddress 0x1000 0x10) .dw .atomic = false ∧
    (Instr.xchg64 .r1 .r2 0x10, Size.dw) ∈ ([(.xchg32 .r1 .r2 0x10, .w), (.xchg64 .r1 .r2 0x10, .dw)] :
      List (Instr × Size)) := by decide
/-- r4 and r5 are unwritten; for the last clause r0 is. -/
theorem witness_UnwrittenRegisterFaults :
    getReg (demo .little).regs .r4 = .unwritten ∧
    (getReg (demo .little).regs .r1 = .val 0x1000 ∧ getReg (demo .little).regs .r4 = .unwritten) ∧
    (getReg (before .little 0 [] [(.r1, 0x1000), (.r2, 1)]).regs .r1 = .val 0x1000 ∧
      getReg (before .little 0 [] [(.r1, 0x1000), (.r2, 1)]).regs .r2 = .val 1 ∧
      getReg (before .little 0 [] [(.r1, 0x1000), (.r2, 1)]).regs .r0 = .unwritten) := by decide

theorem witness_LoadLookupResult :
    (vecPlat .little).mapByFd.lookup 3 = some 0xa000 ∧ (vecPlat .little).mapByIdx.lookup 0 = some 0xb000 ∧
    (vecPlat .little).varAddr.lookup 9 = some 0x40000 ∧
    (before .little 2 [] []).plat.codeAddr.lookup ((before .little 2 [] []).pc, 4) = some 0x50030 ∧
    (vecPlat .little).mapVal.lookup 0xa000 = some 0x20000 ∧
    (vecPlat .little).mapVal.lookup 0xb000 = some 0x30000 := by decide
/-- The demo platform without map values, for the clauses where a map has none. -/
theorem witness_LookupUndefinedFaults :
    (vecPlat .little).mapByFd.lookup 4 = none ∧ (vecPlat .little).mapByIdx.lookup 1 = none ∧
    (vecPlat .little).varAddr.lookup 8 = none ∧ (vecPlat .little).codeAddr.lookup (0, 4) = none ∧
    ({ vecPlat .little with mapVal := [] }.mapByFd.lookup 3 = some 0xa000 ∧
      { vecPlat .little with mapVal := [] }.mapVal.lookup 0xa000 = none) ∧
    ({ vecPlat .little with mapVal := [] }.mapByIdx.lookup 0 = some 0xb000 ∧
      { vecPlat .little with mapVal := [] }.mapVal.lookup 0xb000 = none) := by decide
theorem witness_PacketAndSecondSlotStop :
    ((Instr.ldindb .r2 5, "LDINDB") ∈ ([(.ldabsw 5, "LDABSW"), (.ldabsh 5, "LDABSH"), (.ldabsb 5, "LDABSB"),
      (.ldindw .r2 5, "LDINDW"), (.ldindh .r2 5, "LDINDH"), (.ldindb .r2 5, "LDINDB")] : List (Instr × String)) ∧
      Group.packet ∉ (demo .little).plat.groups) ∧
    Group.packet ∈ ({ demo .little with plat := { vecPlat .little with groups := allGroups } } : State).plat.groups := by
  decide

theorem witness_DecodeOfEncode :
    (Instr.wf (.lddwImm .r1 5 6) = true ∧ supports [.base64] (Instr.group (.lddwImm .r1 5 6)) = true) ∧
    (Instr.wf (.cmpxchg32 .r1 .r2 0xffff) = true ∧ supports [.atomic64] (Instr.group (.cmpxchg32 .r1 .r2 0xffff)) = true) := by
  decide
theorem witness_DecodeIsStrict :
    decode .big allGroups (slotHex 0x0710000011223344) none = .ok (.add64K .r1 0x11223344) ∧
    decode .little allGroups (slotHex 0x1801000088776655) (some (slotHex 0x0000000044332211))
      = .ok (.lddwImm .r1 0x55667788 0x11223344) := by decide
theorem witness_DecodeLengthByOpcode :
    decode .little allGroups (slotHex 0x9500000000000000) none = .ok .exit ∧
    (slotHex 0x0000000044332211).extractLsb' 0 8 = 0x00 := by decide
theorem witness_SupportedGroupsClosed :
    supports [.base64] .base64 = true ∧ supports [.atomic64] .atomic64 = true ∧
    supports [.atomic64] .atomic32 = true ∧ supports [.divmul64] .divmul64 = true ∧
    supports [.packet] .packet = true ∧ supports [.base64, .atomic32, .divmul64] .atomic64 = false ∧
    decode .little allGroups (slotHex 0x2f21000000000000) none = .ok (.mul64X .r1 .r2) ∧
    supports [.base64] (Instr.group (.mul64X .r1 .r2)) = false := by decide

theorem witness_StepRunsDecodedInstruction :
    (demo .little).st = .running ∧ 0 ≤ (demo .little).pc ∧
    (demo .little).prog[(demo .little).pc.toNat]? = some (slotHex 0x0701000044332211) ∧
    decode (demo .little).plat.endian (demo .little).plat.groups (slotHex 0x0701000044332211)
      (demo .little).prog[(demo .little).pc.toNat + 1]? = .ok (.add64K .r1 0x11223344) ∧
    (demo .little).env = [] := by decide
/-- The demo program has one slot: -1 and 1 are the nearest slots outside it. -/
theorem witness_FetchOutsideProgramFaults :
    (demo .little).st = .running ∧ ({ demo .little with pc := -1 } : State).pc < 0 ∧
    (({ demo .little with pc := 1 } : State).prog.length : Int) ≤ ({ demo .little with pc := 1 } : State).pc ∧
    (before .little 0 [] []).prog = [] ∧ (before .little 0 [] []).st = .running := by decide
theorem witness_IllegalSlotFaults :
    (before .little 0 [0] []).st = .running ∧ 0 ≤ (before .little 0 [0] []).pc ∧
    (before .little 0 [0] []).prog[(before .little 0 [0] []).pc.toNat]? = some (slotHex 0) ∧
    decode .little (before .little 0 [0] []).plat.groups (slotHex 0) (before .little 0 [0] []).prog[1]?
      = .error .reservedOpcode ∧
    (slotHex 0).extractLsb' 0 8 = 0x00 := by decide
theorem witness_NoStepAfterTheEnd :
    ({ demo .little with st := .exited } : State).st = .exited ∧
    (stopped (demo .little) (.uninitRegister .r4)).st = .faulted (.uninitRegister .r4) 0 ∧
    (demo .little).st = .running := by decide
theorem witness_FaultsArePrecise :
    (demo .little).st = .running ∧
    exec (.add64K .r4 1) (demo .little) = .next (stopped (demo .little) (.uninitRegister .r4)) ∧
    (stopped (demo .little) (.uninitRegister .r4)).st = .faulted (.uninitRegister .r4) 0 := ⟨rfl, rfl, rfl⟩
theorem witness_OnlyExitEndsRun :
    (demo .little).st = .running ∧ exec .exit (demo .little) = .next { demo .little with st := .exited } ∧
    ({ demo .little with st := .exited } : State).st = .exited := ⟨rfl, rfl, rfl⟩
/-- A store changes memory, a call the stack, a helper call the tape. -/
theorem witness_OnlyStoresAndCallsChangeMemoryOrStack :
    (match exec (.stb .r1 0 1) (demo .little) with
      | .next t => decide (t.mem ≠ (demo .little).mem)
      | _ => false) = true ∧
    (match exec (.callLocal 1) (demo .little) with
      | .next t => decide (t.cs ≠ (demo .little).cs)
      | _ => false) = true ∧
    (match exec (.callHelper 7) (helping (.done noRegs [])) with
      | .next t => decide (t.replies ≠ (helping (.done noRegs [])).replies)
      | _ => false) = true := by decide
/-- A state with memory and a call stack meets the invariant and steps. -/
theorem witness_InvariantKeptByStep :
    StateInv (deep .saved [⟨7, some kept⟩]) ∧ ∃ t, step (deep .saved [⟨7, some kept⟩]) = .next t := by
  refine ⟨?_, _, rfl⟩
  unfold StateInv
  decide
theorem witness_InvariantAtEntry : memoryWf (memHex mem0) = true := by decide
theorem witness_ProgramAndParametersFixed : ∃ t, step (demo .little) = .next t := ⟨_, rfl⟩
/-- The demo state with one byte shared and a tape whose head entry names that byte twice and its neighbour. -/
def touched : State :=
  { demo .little with
    plat := { vecPlat .little with shared := [⟨0x1000, 1⟩] }
    env := [[(0x1000, 1), (0x1000, 2), (0x1001, 3)], []] }

/-- One byte shared, its neighbour not; the entry's last write to the shared byte, and a byte it does not name. -/
theorem witness_EnvChangesOnlySharedBytes :
    memoryWf touched.mem = true ∧ isShared touched.plat 0x1001 = false ∧
    (touched.env = ([(0x1000, 1)] ++ (0x1000, 2) :: [(0x1001, 3)]) :: [[]] ∧
      (∀ w ∈ ([(0x1001, 3)] : List (Word × Byte)), w.1 ≠ 0x1000) ∧ isShared touched.plat 0x1000 = true) ∧
    (∀ w ∈ ([(0x1000, 1), (0x1000, 2), (0x1001, 3)] : List (Word × Byte)), w.1 ≠ 0x1002) ∧
    (demo .little).env = [] :=
  ⟨by decide +kernel, by decide, ⟨rfl, by simp, by decide⟩, by simp, rfl⟩
theorem witness_CanonicalMemoryUnique :
    memoryWf (memHex mem0) = true ∧ memoryWf (memHex mem0) = true ∧
    ∀ a, a < 2 ^ 64 → readByte (memHex mem0) a = readByte (memHex mem0) a :=
  ⟨by decide, by decide +kernel, fun _ _ => rfl⟩
/-- A bit inside an 8-bit value, one above it, and the whole width. -/
theorem witness_SignExtensionDefinition :
    (7 < 64 ∧ 0 < 8 ∧ 8 ≤ 64) ∧ (63 < 64 ∧ 0 < 8 ∧ 8 ≤ 64) ∧ (63 < 64 ∧ 0 < 64 ∧ 64 ≤ 64) := by decide

end Sys2Proof.Tests
end

section
/-! Bytes and values, and what an admitted read gives: the facts about the shared operations that the statements below
and later ones rest on. -/
namespace Sys2Proof.Machine

/-! ## The next state of an instruction that writes one register -/

/-- Writing one register and moving `pc` on is the next state the claims call `wrote` (R13, R27). -/
theorem advance_setReg (s : State) (d : RegIdx) (v : Word) : advance (setReg s d v) = wrote s d v := rfl

/-! ## A number and its base-256 digits -/

/-- The digit of weight `256 ^ i` of the number is byte `i` of the list. -/
theorem natOfBytes_digit {bs : List Byte} {i : Nat} (h : i < bs.length) :
    natOfBytes bs / 256 ^ i % 256 = bs[i].toNat := by
  induction bs generalizing i with
  | nil => simp at h
  | cons b bs ih =>
    have hb : b.toNat < 256 := b.isLt
    cases i with
    | zero => simp only [natOfBytes, List.getElem_cons_zero, pow_zero]; omega
    | succ i =>
      have hdiv : (b.toNat + 256 * natOfBytes bs) / 256 = natOfBytes bs := by omega
      rw [natOfBytes, pow_succ', ← Nat.div_div_eq_div_mul, hdiv, List.getElem_cons_succ]
      exact ih (by simpa using h)

/-- Byte `i` of the value assembled from a list of bytes is byte `i` of the list, where the value is wide enough. -/
theorem extractLsb'_ofNat_natOfBytes {n : Nat} {bs : List Byte} {i : Nat} (h : i < bs.length) (hn : 8 * i + 8 ≤ n) :
    (BitVec.ofNat n (natOfBytes bs)).extractLsb' (8 * i) 8 = bs[i] := by
  have hlow : (BitVec.ofNat n (natOfBytes bs)).extractLsb' (8 * i) 8
      = BitVec.ofNat 8 (natOfBytes bs >>> (8 * i)) := by
    ext j hj
    simp [← BitVec.getLsbD_eq_getElem, BitVec.getLsbD_ofNat, hj, show 8 * i + j < n by omega]
  apply BitVec.eq_of_toNat_eq
  rw [hlow, BitVec.toNat_ofNat, Nat.shiftRight_eq_div_pow, pow_mul]
  exact natOfBytes_digit h

/-- A list's first byte is the lowest byte of the value assembled from it, the rest stands above it. -/
theorem ofNat_natOfBytes_cons (w : Nat) (b : Byte) (bs : List Byte) :
    BitVec.ofNat (w + 8) (natOfBytes (b :: bs)) = BitVec.ofNat w (natOfBytes bs) ++ b := by
  apply BitVec.eq_of_toNat_eq
  have hb : b.toNat < 2 ^ 8 := b.isLt
  have hmod : (b.toNat + 256 * natOfBytes bs) % 2 ^ 8 = b.toNat := by omega
  have hdiv : (b.toNat + 256 * natOfBytes bs) / 2 ^ 8 = natOfBytes bs := by omega
  rw [BitVec.toNat_append, ← Nat.shiftLeft_add_eq_or_of_lt hb, Nat.shiftLeft_eq, BitVec.toNat_ofNat,
    BitVec.toNat_ofNat, natOfBytes, pow_add, Nat.mul_comm (2 ^ w), Nat.mod_mul, hmod, hdiv]
  omega

theorem ofNat_natOfBytes_singleton (b : Byte) : BitVec.ofNat 8 (natOfBytes [b]) = b := by
  simp [natOfBytes]

/-! ## Values and bytes in host byte order -/

@[simp] theorem length_readBytes (m : Memory) (a : Word) (k : Nat) : (readBytes m a k).length = k := by
  simp [readBytes]

@[simp] theorem getElem_readBytes (m : Memory) (a : Word) (k i : Nat) (h : i < (readBytes m a k).length) :
    (readBytes m a k)[i] = readByte m (byteAddr a i) := by
  simp [readBytes]

@[simp] theorem length_hostOrder (e : Endian) (bs : List Byte) : (hostOrder e bs).length = bs.length := by
  cases e <;> simp [hostOrder]

theorem bytePlace_lt {e : Endian} {k i : Nat} (h : i < k) : bytePlace e k i < k := by
  cases e <;> simp only [bytePlace] <;> omega

/-- Under either byte order, byte `i` in address order stands at `bytePlace` in the value (R43, R44). -/
theorem getElem_hostOrder_bytePlace (e : Endian) {bs : List Byte} {i : Nat} (h : i < bs.length) :
    (hostOrder e bs)[bytePlace e bs.length i]'(by simpa using bytePlace_lt h) = bs[i] := by
  cases e with
  | little => rfl
  | big =>
    simp only [hostOrder, bytePlace, List.getElem_reverse]
    congr 1
    omega

/-- The value loaded is the one whose bytes stand at the address in host byte order (R43 step 3). -/
theorem bytesAt_loadValue (e : Endian) (m : Memory) (a : Word) (z : Size) :
    BytesAt e m a (sizeBytes z) (loadValue e m a z) := by
  intro i hi
  have hplace := bytePlace_lt (e := e) hi
  rw [loadValue, extractLsb'_ofNat_natOfBytes (by simpa using hplace) (by unfold sizeBits; omega)]
  have hbyte := getElem_hostOrder_bytePlace e (bs := readBytes m a (sizeBytes z)) (i := i) (by simpa using hi)
  simp only [length_readBytes, getElem_readBytes] at hbyte
  exact hbyte.symm

/-! ## Admitted accesses -/

/-- An admitted access passes both checks (R46, R49). -/
theorem checkAccess_of_admitted {s : State} {a : Word} {z : Size} {k : AccessKind} (h : Admitted s a z k) :
    checkAccess s.plat a z k = .ok () := by
  obtain ⟨haligned, hok⟩ := h
  rw [checkAccess, if_neg fun ⟨hkind, hmis⟩ => hmis (haligned hkind), if_pos hok]

/-- An admitted read answers the value at the address (R43). -/
theorem memRead_of_admitted {s : State} {a : Word} {z : Size} (h : Admitted s a z .read) :
    memRead s a z = .ok (loadValue s.plat.endian s.mem a z) := by
  rw [memRead, checkAccess_of_admitted h]

/-- A load, whatever its width and extension, writes the extended value of the bytes at the effective address and
nothing else but `pc` (R281, R282). -/
theorem load_of_admitted {z : Size} (ext : BitVec (sizeBits z) → Word) (d : RegIdx) {r : RegIdx} {off : Off}
    {s : State} {base : Word} (hbase : getReg s.regs r = .val base)
    (hadm : Admitted s (effectiveAddress base off) z .read) :
    ∃ v : BitVec (sizeBits z), BytesAt s.plat.endian s.mem (effectiveAddress base off) (sizeBytes z) v ∧
      load z ext d r off s = wrote s d (ext v) := by
  refine ⟨_, bytesAt_loadValue _ _ _ _, ?_⟩
  rw [load, readReg_of_val hbase, memRead_of_admitted hadm, orRaise_ok, advance_setReg]

/-! ## Byte swaps -/

/-- The bytes of the low part of a register are bytes of the register. -/
theorem bytesOf_setWidth (k : Nat) (x : Word) :
    bytesOf k (x.setWidth (8 * k)) = (List.range k).map fun i => x.extractLsb' (8 * i) 8 := by
  apply List.map_congr_left
  intro i hi
  have hlt : i < k := List.mem_range.mp hi
  exact BitVec.extractLsb'_setWidth_of_le (by omega)

/-- The byte swap of the low part of a register, from its bytes in reverse order (R10). -/
theorem bswapN_setWidth (k : Nat) (x : Word) :
    bswapN k (x.setWidth (8 * k))
      = BitVec.ofNat (8 * k) (natOfBytes ((List.range k).map fun i => x.extractLsb' (8 * i) 8).reverse) := by
  rw [bswapN, bytesOf_setWidth]

/-- The two bytes of a 16-bit swap written out, the register's lowest byte on top (R10). -/
theorem bswapN_two (x : Word) :
    bswapN 2 (x.setWidth (8 * 2)) = x.extractLsb' 0 8 ++ x.extractLsb' 8 8 := by
  rw [bswapN_setWidth]
  change BitVec.ofNat (8 + 8) (natOfBytes [_, _]) = _
  rw [ofNat_natOfBytes_cons, ofNat_natOfBytes_singleton]

/-- The four bytes of a 32-bit swap written out (R10). -/
theorem bswapN_four (x : Word) :
    bswapN 4 (x.setWidth (8 * 4))
      = x.extractLsb' 0 8 ++ x.extractLsb' 8 8 ++ x.extractLsb' 16 8 ++ x.extractLsb' 24 8 := by
  rw [bswapN_setWidth]
  change BitVec.ofNat (8 + 8 + 8 + 8) (natOfBytes [_, _, _, _]) = _
  iterate 3 rw [ofNat_natOfBytes_cons]
  rw [ofNat_natOfBytes_singleton]

/-- The eight bytes of a 64-bit swap written out (R10). -/
theorem bswapN_eight (x : Word) :
    bswapN 8 (x.setWidth (8 * 8))
      = x.extractLsb' 0 8 ++ x.extractLsb' 8 8 ++ x.extractLsb' 16 8 ++ x.extractLsb' 24 8
        ++ x.extractLsb' 32 8 ++ x.extractLsb' 40 8 ++ x.extractLsb' 48 8 ++ x.extractLsb' 56 8 := by
  rw [bswapN_setWidth]
  change BitVec.ofNat (8 + 8 + 8 + 8 + 8 + 8 + 8 + 8) (natOfBytes [_, _, _, _, _, _, _, _]) = _
  iterate 7 rw [ofNat_natOfBytes_cons]
  rw [ofNat_natOfBytes_singleton]

section
variable {n : Nat} {e : Endian} {k : Nat} {v w : BitVec n}

/-- `leN` keeps the value on a little-endian host (R10). -/
theorem leN_of_little (he : e = .little) : leN e k v = v := by rw [he]; rfl

/-- `leN` swaps the bytes on a big-endian host (R10). -/
theorem leN_of_big (he : e = .big) (hw : bswapN k v = w) : leN e k v = w := by rw [he]; exact hw

/-- `beN` swaps the bytes on a little-endian host (R10). -/
theorem beN_of_little (he : e = .little) (hw : bswapN k v = w) : beN e k v = w := by rw [he]; exact hw

/-- `beN` keeps the value on a big-endian host (R10). -/
theorem beN_of_big (he : e = .big) : beN e k v = v := by rw [he]; rfl

end

/-- An END instruction writes the converted low bits, zero-extended, and moves `pc` on (R181, R182). -/
theorem next_byteSwap_of_val {k : Nat} {f : Endian → (j : Nat) → BitVec (8 * k) → BitVec (8 * k)} {d : RegIdx}
    {s : State} {x : Word} {v : BitVec (8 * k)} (hx : getReg s.regs d = .val x)
    (hv : f s.plat.endian k (x.setWidth (8 * k)) = v) :
    (.next (byteSwap k f d s) : Result) = .next (wrote s d (v.setWidth 64)) := by
  rw [byteSwap, readReg_of_val hx, hv, advance_setReg, zext64]

/-- Settles O13: each END form is `byteSwap`, and its conversion keeps or reverses the bytes by the host order. -/
theorem byteSwapResult : Obligations.ByteSwapResult := by
  unfold Obligations.ByteSwapResult
  intro d s x hx
  refine ⟨fun he => ⟨?le16, ?le32, ?le64, ?be16, ?be32, ?be64⟩,
    fun he => ⟨?le16Big, ?le32Big, ?le64Big, ?be16Big, ?be32Big, ?be64Big⟩, ?bswap16, ?bswap32, ?bswap64⟩
  case le16 | le32 | le64 => exact next_byteSwap_of_val hx (leN_of_little he)
  case be16 => exact next_byteSwap_of_val hx (beN_of_little he (bswapN_two x))
  case be32 => exact next_byteSwap_of_val hx (beN_of_little he (bswapN_four x))
  case be64 => exact next_byteSwap_of_val hx (beN_of_little he (bswapN_eight x))
  case le16Big => exact next_byteSwap_of_val hx (leN_of_big he (bswapN_two x))
  case le32Big => exact next_byteSwap_of_val hx (leN_of_big he (bswapN_four x))
  case le64Big => exact next_byteSwap_of_val hx (leN_of_big he (bswapN_eight x))
  case be16Big | be32Big | be64Big => exact next_byteSwap_of_val hx (beN_of_big he)
  case bswap16 => exact next_byteSwap_of_val hx (bswapN_two x)
  case bswap32 => exact next_byteSwap_of_val hx (bswapN_four x)
  case bswap64 => exact next_byteSwap_of_val hx (bswapN_eight x)

end Sys2Proof.Machine
end

section
/-! The supported groups, sign extension, and the sign-extending loads. -/
namespace Sys2Proof

/-! ## Conformance groups -/

/-- What decodes is what the opcode table gives, of a supported group (R85 step 6). -/
theorem decode_eq_ok_iff {e : Endian} {gs : List Group} {slot : Slot} {next : Option Slot} {i : Instr} :
    decode e gs slot next = .ok i ↔
      decodeWord (wordOfSlot e slot) (next.map (wordOfSlot e)) = .ok i ∧ supports gs i.group = true := by
  unfold decode
  cases decodeWord (wordOfSlot e slot) (next.map (wordOfSlot e)) with
  | error r => simp
  | ok j =>
    simp only [Except.ok.injEq]
    constructor
    · intro h
      split at h
      next hsup => cases h; exact ⟨rfl, hsup⟩
      next => cases h
    · rintro ⟨rfl, hsup⟩
      rw [if_pos hsup]

/-- A row whose group is not supported is rejected by that name (R85 step 6). -/
theorem decode_eq_unsupportedGroup {e : Endian} {gs : List Group} {slot : Slot} {next : Option Slot} {i : Instr}
    (hrow : decodeWord (wordOfSlot e slot) (next.map (wordOfSlot e)) = .ok i) (hno : supports gs i.group = false) :
    decode e gs slot next = .error .unsupportedGroup := by
  simp [decode, hrow, hno]

/-- The inclusions of R3, as pairs. -/
theorem mem_included_iff {h g : Group} :
    g ∈ h.included ↔
      (h, g) ∈ ([(.base64, .base32), (.atomic64, .atomic32), (.divmul64, .divmul32)] : List (Group × Group)) := by
  cases h <;> cases g <;> decide

/-- Supported are `base32`, the groups named, and those a named group includes (R2, R3). -/
theorem supports_iff {gs : List Group} {g : Group} :
    supports gs g = true ↔ g = .base32 ∨ g ∈ gs ∨ ∃ h ∈ gs, g ∈ h.included := by
  simp only [supports, Bool.or_eq_true, beq_iff_eq, List.any_eq_true, exists_eq_right]
  grind

/-- The groups of a list of rows, read off row by row. -/
theorem group_eq_of_map {rows : List Instr} {g : Group} (h : rows.map Instr.group = List.replicate rows.length g) :
    ∀ i ∈ rows, i.group = g :=
  List.map_eq_replicate_iff.mp h

/-- Settles O46: the closure by `supports_iff`, the rejection by the decoder's last step, the rows of R93 group by
group. -/
theorem supportedGroupsClosed : Obligations.SupportedGroupsClosed := by
  unfold Obligations.SupportedGroupsClosed
  refine ⟨fun gs => ⟨fun g => ?_, fun e slot next i hdec hno => ?_⟩, fun d r off imm nextImm => ?_⟩
  · simp only [supports_iff, mem_included_iff]
  · exact decode_eq_unsupportedGroup (decode_eq_ok_iff.mp hdec).1 hno
  · exact ⟨group_eq_of_map rfl, group_eq_of_map rfl, group_eq_of_map rfl, group_eq_of_map rfl,
      group_eq_of_map rfl, group_eq_of_map rfl, group_eq_of_map rfl⟩

end Sys2Proof

namespace Sys2Proof.Machine

/-! ## Sign extension -/

/-- Settles O60: above the value's width stands its most significant bit. -/
theorem signExtensionDefinition : Obligations.SignExtensionDefinition := by
  unfold Obligations.SignExtensionDefinition
  intro n v i hi _ _
  rw [sext64, BitVec.getLsbD_signExtend, decide_eq_true hi, Bool.true_and, BitVec.msb_eq_getLsbD_last]

/-! ## Sign-extending loads -/

/-- Settles O27: the three MEMSX loads are `load` with sign extension at their width. -/
theorem loadSignExtends : Obligations.LoadSignExtends := by
  unfold Obligations.LoadSignExtends
  intro d r off s base i z hrow hbase hadm
  obtain ⟨v, hv, hload⟩ := load_of_admitted sext64 d hbase hadm
  refine ⟨v, hv, ?_⟩
  simp only [List.mem_cons, Prod.mk.injEq, List.not_mem_nil, or_false] at hrow
  obtain ⟨rfl, rfl⟩ | ⟨rfl, rfl⟩ | ⟨rfl, rfl⟩ := hrow
  · exact congrArg _ hload
  · exact congrArg _ hload
  · exact congrArg _ hload

end Sys2Proof.Machine
end

section
/-! Everything an instruction can do to the state, said once (`Effect`, `exec_effect`), and what follows from it: the
program and the parameters are fixed, the invariant is kept, and who changes memory and the call stack. -/
namespace Sys2Proof.Machine

/-! ## What an instruction can do -/

/-- The instruction's opcode class is ST or STX (R78). -/
def StoreClass (i : Instr) : Prop :=
  (encodeFields i).opcode &&& 7 = 2 ∨ (encodeFields i).opcode &&& 7 = 3

/-- The instruction calls a helper, by static or by BTF id (R261, R263). -/
def HelperCall (i : Instr) : Prop :=
  (∃ id, i = .callHelper id) ∨ ∃ id, i = .callBtf id

/-- The ways in which a next state `t` can come from `s` by the instruction `i`; `exec_effect` shows there is no
other. -/
inductive Effect (i : Instr) (s : State) : State → Prop
  /-- A fault is raised (R401). -/
  | raised (c : Cause) : Effect i s (raise c s)
  /-- Registers and `pc` change, nothing else does. -/
  | moved (x : RegFile) (p : Int) : Effect i s { s with regs := x, pc := p }
  /-- A value is stored; an atomic may write a register besides (R44, R55). -/
  | stored (x : RegFile) (a : Word) (z : Size) (v : BitVec (sizeBits z)) (hclass : StoreClass i) :
      Effect i s { s with regs := x, mem := storeValue s.plat.endian s.mem a z v, pc := s.pc + 1 }
  /-- A helper completes (R261, R263). -/
  | helped (x : RegFile) (ws : List (Word × Byte)) (hcall : HelperCall i) : Effect i s (advance (helperDone s x ws))
  /-- A frame is pushed where the call stack has room (R262). -/
  | called (ret target : Int) (hcall : ∃ imm, i = .callLocal imm) (hroom : callStackFull s = false) :
      Effect i s (jumpTo (pushFrame s ret) target)
  /-- The newest frame is popped (R264). -/
  | returned (f : Frame) (rest : List Frame) (hexit : i = .exit) (hcs : s.cs = f :: rest) :
      Effect i s (jumpTo (popFrame s f rest) f.ret)
  /-- The run ends (R264). -/
  | ended (hexit : i = .exit) (hcs : s.cs = []) : Effect i s (endRun s)

namespace Effect
variable {i : Instr} {s t : State}

theorem of_next {u : State} (h : (.next u : Result) = .next t) (hu : Effect i s u) : Effect i s t := by
  cases h; exact hu

/-- A register read raises a fault or goes on. -/
theorem readReg {r : RegIdx} {k : Word → State} (hk : ∀ v, Effect i s (k v)) : Effect i s (readReg r s k) := by
  rcases readReg_cases r s k with ⟨v, -, h⟩ | ⟨-, h⟩ <;> rw [h]
  · exact hk v
  · exact raised _

/-- An operation that may fault raises its fault or goes on. -/
theorem orRaise {α : Type} {r : Except Cause α} {k : α → State} (hk : ∀ v, Effect i s (k v)) :
    Effect i s (orRaise r s k) := by
  rcases orRaise_cases r s k with ⟨v, -, h⟩ | ⟨c, -, h⟩ <;> rw [h]
  · exact hk v
  · exact raised c

/-- A store raises a fault, or its value is stored and `pc` moves on (R44). -/
theorem memWrite {a : Word} {z : Size} {v : BitVec (sizeBits z)} (hclass : StoreClass i) :
    Effect i s (Machine.orRaise (memWrite s a z v) s fun t => advance t) := by
  rcases memWrite_cases s a z v with ⟨-, h⟩ | ⟨c, -, h⟩ <;> rw [h]
  · exact stored s.regs a z v hclass
  · exact raised c

/-- An atomic raises a fault, or goes on with the old value and the state after the new one is stored (R55). -/
theorem atomicRMW {a : Word} {z : Size} {f : BitVec (sizeBits z) → BitVec (sizeBits z)}
    {k : BitVec (sizeBits z) × State → State}
    (hk : ∀ old v, Effect i s (k (old, setMem s (storeValue s.plat.endian s.mem a z v)))) :
    Effect i s (Machine.orRaise (atomicRMW s a z f) s k) := by
  rcases atomicRMW_cases s a z f with ⟨-, h⟩ | ⟨c, -, h⟩ <;> rw [h]
  · exact hk _ _
  · exact raised c

theorem callHelper {kind : HelperKind} {id : Imm} (hcall : HelperCall i) : Effect i s (callHelper kind id s) := by
  rcases callHelper_cases kind id s with ⟨-, h⟩ | ⟨-, -, h⟩ | ⟨x, ws, -, -, h⟩ <;> rw [h]
  · exact raised _
  · exact raised _
  · exact helped x ws hcall

theorem callLocal {imm : Imm} (hcall : ∃ imm, i = .callLocal imm) : Effect i s (callLocal imm s) := by
  rcases callLocal_cases imm s with ⟨-, h⟩ | ⟨hroom, h⟩ <;> rw [h]
  · exact raised _
  · exact called _ _ hcall hroom

theorem exitOp (hexit : i = .exit) : Effect i s (exitOp s) := by
  rcases exitOp_cases s with ⟨hcs, h⟩ | ⟨f, rest, hcs, h⟩ <;> rw [h]
  · exact ended hexit hcs
  · exact returned f rest hexit hcs

/-- A packet instruction that answers a next state raises a fault (R361). -/
theorem packetAccess {name : String} (h : packetAccess name s = .next t) : Effect i s t := by
  unfold Machine.packetAccess at h
  split at h
  · cases h
  · exact of_next h (raised _)

end Effect

/-- Whatever an instruction answers as the next state, it came about in one of the ways of `Effect`: the instructions
by the registers they read and by what they do then. -/
theorem exec_effect {i : Instr} {s t : State} (h : exec i s = .next t) : Effect i s t := by
  cases i with
  -- no register read, the next state given
  | mov32K | mov64K | ja | ja32 | lddwImm => exact .of_next h (.moved _ _)
  -- one register read
  | add32K | sub32K | mul32K | div32K | sdiv32K | or32K | and32K | lsh32K | rsh32K | neg32 | mod32K | smod32K | xor32K
  | mov32X | movsx32_8 | movsx32_16 | arsh32K
  | add64K | sub64K | mul64K | div64K | sdiv64K | or64K | and64K | lsh64K | rsh64K | neg64 | mod64K | smod64K | xor64K
  | mov64X | movsx64_8 | movsx64_16 | movsx64_32 | arsh64K
  | le16 | le32 | le64 | be16 | be32 | be64 | bswap16 | bswap32 | bswap64
  | jeq64K | jgt64K | jge64K | jset64K | jne64K | jsgt64K | jsge64K | jlt64K | jle64K | jslt64K | jsle64K
  | jeq32K | jgt32K | jge32K | jset32K | jne32K | jsgt32K | jsge32K | jlt32K | jle32K | jslt32K | jsle32K =>
    exact .of_next h (.readReg fun _ => .moved _ _)
  -- two registers read
  | add32X | sub32X | mul32X | div32X | sdiv32X | or32X | and32X | lsh32X | rsh32X | mod32X | smod32X | xor32X | arsh32X
  | add64X | sub64X | mul64X | div64X | sdiv64X | or64X | and64X | lsh64X | rsh64X | mod64X | smod64X | xor64X | arsh64X
  | jeq64X | jgt64X | jge64X | jset64X | jne64X | jsgt64X | jsge64X | jlt64X | jle64X | jslt64X | jsle64X
  | jeq32X | jgt32X | jge32X | jset32X | jne32X | jsgt32X | jsge32X | jlt32X | jle32X | jslt32X | jsle32X =>
    exact .of_next h (.readReg fun _ => .readReg fun _ => .moved _ _)
  -- calls and returns
  | callHelper => exact .of_next h (.callHelper (.inl ⟨_, rfl⟩))
  | callBtf => exact .of_next h (.callHelper (.inr ⟨_, rfl⟩))
  | callLocal => exact .of_next h (.callLocal ⟨_, rfl⟩)
  | exit => exact .of_next h (.exitOp rfl)
  -- data memory
  | ldxw | ldxh | ldxb | ldxdw | ldxsw | ldxsh | ldxsb =>
    exact .of_next h (.readReg fun _ => .orRaise fun _ => .moved _ _)
  | stw | sth | stb | stdw =>
    exact .of_next h (.readReg fun _ => .memWrite (by simp [StoreClass, encodeFields, encDst]))
  | stxw | stxh | stxb | stxdw =>
    exact .of_next h (.readReg fun _ => .readReg fun _ => .memWrite
      (by simp [StoreClass, encodeFields, encBoth]))
  | atomicAdd32 | atomicOr32 | atomicAnd32 | atomicXor32 | atomicAdd64 | atomicOr64 | atomicAnd64 | atomicXor64
  | atomicFetchAdd32 | atomicFetchOr32 | atomicFetchAnd32 | atomicFetchXor32 | xchg32
  | atomicFetchAdd64 | atomicFetchOr64 | atomicFetchAnd64 | atomicFetchXor64 | xchg64 =>
    exact .of_next h (.readReg fun _ => .readReg fun _ => .atomicRMW fun _ _ =>
      .stored _ _ _ _ (by simp [StoreClass, encodeFields, encBoth]))
  | cmpxchg32 | cmpxchg64 =>
    exact .of_next h (.readReg fun _ => .readReg fun _ => .readReg fun _ => .atomicRMW fun _ _ =>
      .stored _ _ _ _ (by simp [StoreClass, encodeFields, encBoth]))
  -- platform lookups, and the instructions that stop the run
  | lddwMapFd | lddwVar | lddwCode | lddwMapIdx => exact .of_next h (.orRaise fun _ => .moved _ _)
  | lddwMapFdVal | lddwMapIdxVal => exact .of_next h (.orRaise fun _ => .orRaise fun _ => .moved _ _)
  | ldabsw | ldabsh | ldabsb | ldindw | ldindh | ldindb => exact .packetAccess h
  | imm64SecondSlot => exact .of_next h (.raised _)

/-! ## The program and the parameters -/

theorem Effect.prog_eq {i : Instr} {s t : State} (h : Effect i s t) : t.prog = s.prog := by
  cases h <;> rfl

theorem Effect.plat_eq {i : Instr} {s t : State} (h : Effect i s t) : t.plat = s.plat := by
  cases h <;> rfl

/-- Settles O57: no effect of an instruction reaches `prog` or `plat`, nor does `ENV` or a fetch fault. -/
theorem programAndParametersFixed : Obligations.ProgramAndParametersFixed := by
  unfold Obligations.ProgramAndParametersFixed
  intro s t hstep
  obtain ⟨-, ⟨c, -, rfl⟩ | ⟨i, -, hexec⟩⟩ := step_cases hstep
  · simp
  · have heff := exec_effect hexec
    exact ⟨heff.prog_eq.trans (envTick_prog s), heff.plat_eq.trans (envTick_plat s)⟩

/-! ## The invariant -/

theorem callStackFull_eq_false_iff {s : State} :
    callStackFull s = false ↔ ∀ n, s.plat.maxCallDepth = some n → s.cs.length < n := by
  unfold callStackFull
  cases s.plat.maxCallDepth <;> simp

theorem callStackFull_of_le {s : State} {n : Nat} (hmax : s.plat.maxCallDepth = some n) (hle : n ≤ s.cs.length) :
    callStackFull s = true := by
  simp [callStackFull, hmax, hle]

theorem depthFits_iff {p : Platform} {cs : List Frame} :
    depthFits p cs = true ↔ ∀ n, p.maxCallDepth = some n → cs.length ≤ n := by
  unfold depthFits
  cases p.maxCallDepth <;> simp

theorem makeFrame_of_bare {s : State} (h : s.plat.callFrame = .bare) (ret : Int) : makeFrame s ret = ⟨ret, none⟩ := by
  simp [makeFrame, h]

theorem makeFrame_of_saved {s : State} (h : s.plat.callFrame = .saved) (ret : Int) :
    makeFrame s ret = ⟨ret, some (saveRegs s.regs)⟩ := by
  simp [makeFrame, h]

/-- A call's frame has the shape `CALL_FRAME` gives it (R262). -/
theorem frameFits_makeFrame (s : State) (ret : Int) : frameFits s.plat (makeFrame s ret) = true := by
  cases h : s.plat.callFrame with
  | bare => simp [makeFrame_of_bare h, frameFits, h]
  | saved => simp [makeFrame_of_saved h, frameFits, h]

/-- A call where the stack has room leaves it within `MAX_CALL_DEPTH`, every frame of the right shape (R262). -/
theorem StateInv.pushFrame {s : State} (h : StateInv s) (hroom : callStackFull s = false) (ret : Int) :
    StateInv (pushFrame s ret) := by
  obtain ⟨hmem, hframes, -⟩ := h
  refine ⟨hmem, ?_, depthFits_iff.mpr (callStackFull_eq_false_iff.mp hroom)⟩
  simp [frameFits_makeFrame, hframes]

/-- A shorter call stack keeps the invariant. -/
theorem StateInv.popFrame {s : State} {f : Frame} {rest : List Frame} (h : StateInv s) (hcs : s.cs = f :: rest) :
    StateInv (popFrame s f rest) := by
  obtain ⟨hmem, hframes, hdepth⟩ := h
  rw [hcs, List.all_cons, Bool.and_eq_true] at hframes
  refine ⟨hmem, hframes.2, depthFits_iff.mpr fun n hmax => ?_⟩
  have hlen := depthFits_iff.mp hdepth n hmax
  rw [hcs, List.length_cons] at hlen
  exact Nat.le_of_succ_le hlen

/-- The invariant speaks of memory, the call stack and the parameters only: another canonical memory keeps it. -/
theorem StateInv.of_mem {s t : State} (h : StateInv s) (hmem : memoryWf t.mem = true) (hcs : t.cs = s.cs)
    (hplat : t.plat = s.plat) : StateInv t := by
  obtain ⟨-, hframes, hdepth⟩ := h
  exact ⟨hmem, by rw [hcs, hplat]; exact hframes, by rw [hcs, hplat]; exact hdepth⟩

/-- Every effect of an instruction keeps the invariant. -/
theorem StateInv.of_effect {i : Instr} {s t : State} (h : StateInv s) (heff : Effect i s t) : StateInv t := by
  have hmem : memoryWf s.mem = true := h.1
  cases heff with
  | raised | moved | ended => exact h
  | stored x a z v => exact h.of_mem (memoryWf_storeValue hmem _ a z v) rfl rfl
  | helped x ws => exact h.of_mem (memoryWf_writeList hmem ws) rfl rfl
  | called ret target _ hroom => exact h.pushFrame hroom ret
  | returned f rest _ hcs => exact h.popFrame hcs

/-- A firing of `ENV` keeps the invariant. -/
theorem StateInv.envTick {s : State} (h : StateInv s) : StateInv (envTick s) :=
  h.of_mem (memoryWf_envTick h.1) (envTick_cs s) (envTick_plat s)

/-- Settles O54: `ENV` keeps the invariant, a fetch fault touches nothing it speaks of, and every effect of an
instruction keeps it. -/
theorem invariantKeptByStep : Obligations.InvariantKeptByStep := by
  unfold Obligations.InvariantKeptByStep
  intro s t hinv hstep
  obtain ⟨-, ⟨c, -, rfl⟩ | ⟨i, -, hexec⟩⟩ := step_cases hstep
  · exact hinv.envTick
  · exact hinv.envTick.of_effect (exec_effect hexec)

/-! ## Who changes memory and the call stack -/

theorem Effect.mem_eq_or {i : Instr} {s t : State} (h : Effect i s t) :
    t.mem = s.mem ∨ StoreClass i ∨ HelperCall i := by
  cases h with
  | stored x a z v hclass => exact .inr (.inl hclass)
  | helped x ws hcall => exact .inr (.inr hcall)
  | raised | moved | called | returned | ended => exact .inl rfl

theorem Effect.cs_eq_or {i : Instr} {s t : State} (h : Effect i s t) :
    t.cs = s.cs ∨ i = .exit ∨ ∃ imm, i = .callLocal imm := by
  cases h with
  | called ret target hcall => exact .inr (.inr hcall)
  | returned f rest hexit => exact .inr (.inl hexit)
  | raised | moved | stored | helped | ended => exact .inl rfl

theorem Effect.replies_eq_or {i : Instr} {s t : State} (h : Effect i s t) :
    (t.replies = s.replies ∧ t.freeCount = s.freeCount) ∨ HelperCall i := by
  cases h with
  | helped x ws hcall => exact .inr hcall
  | raised | moved | stored | called | returned | ended => exact .inl ⟨rfl, rfl⟩

theorem Effect.env_eq {i : Instr} {s t : State} (h : Effect i s t) : t.env = s.env := by
  cases h <;> rfl

/-- Settles O53: one lemma on `Effect` for each of memory, the call stack, the replies with their counter, and `env`. -/
theorem onlyStoresAndCallsChangeMemoryOrStack : Obligations.OnlyStoresAndCallsChangeMemoryOrStack := by
  unfold Obligations.OnlyStoresAndCallsChangeMemoryOrStack
  intro i s t hexec
  have heff := exec_effect hexec
  refine ⟨fun hmem => ?_, heff.cs_eq_or.resolve_left, fun hreplies => ?_, heff.env_eq⟩
  · exact or_assoc.mp (heff.mem_eq_or.resolve_left hmem)
  · exact heff.replies_eq_or.resolve_left fun ⟨hr, hf⟩ => hreplies.elim (· hr) (· hf)

end Sys2Proof.Machine
end

section
/-! The next states of the instructions of control and of CMPXCHG: what a comparison, a frame and a store give, then the
instructions; register reads that fault; the step and the entry state. -/
namespace Sys2Proof.Machine

/-! ## Conditional jumps -/

section
variable {n : Nat} {a b : BitVec n}

theorem condEq_iff : condEq a b = true ↔ a = b := by simp [condEq]

theorem condNe_iff : condNe a b = true ↔ a ≠ b := by simp [condNe]

theorem condSet_iff : condSet a b = true ↔ a &&& b ≠ 0 := by simp [condSet]

theorem condGt_iff : condGt a b = true ↔ BitVec.ult b a = true := Iff.rfl

theorem condGe_iff : condGe a b = true ↔ BitVec.ule b a = true := Iff.rfl

theorem condLt_iff : condLt a b = true ↔ BitVec.ult a b = true := Iff.rfl

theorem condLe_iff : condLe a b = true ↔ BitVec.ule a b = true := Iff.rfl

theorem condSgt_iff : condSgt a b = true ↔ BitVec.slt b a = true := Iff.rfl

theorem condSge_iff : condSge a b = true ↔ BitVec.sle b a = true := Iff.rfl

theorem condSlt_iff : condSlt a b = true ↔ BitVec.slt a b = true := Iff.rfl

theorem condSle_iff : condSle a b = true ↔ BitVec.sle a b = true := Iff.rfl

end

section
variable {P : Prop} [Decidable P] {d r : RegIdx} {off : Off} {imm : Imm} {s : State} {x y : Word}

/-- The arms of a conditional jump, by what its condition says (R202). -/
theorem branch_of_iff {taken : Bool} (h : taken = true ↔ P) :
    branch taken off s = wentTo s (if P then s.pc + 1 + off.toInt else s.pc + 1) := by
  simp only [branch, h]
  rfl

theorem next_jump64K {cond : Word → Word → Bool} (hx : getReg s.regs d = .val x)
    (h : cond x (imm.signExtend 64) = true ↔ P) :
    (.next (jump64K cond d off imm s) : Result) = .next (wentTo s (if P then s.pc + 1 + off.toInt else s.pc + 1)) :=
  congrArg _ ((readReg_of_val hx).trans (branch_of_iff h))

theorem next_jump64X {cond : Word → Word → Bool} (hx : getReg s.regs d = .val x) (hy : getReg s.regs r = .val y)
    (h : cond x y = true ↔ P) :
    (.next (jump64X cond d r off s) : Result) = .next (wentTo s (if P then s.pc + 1 + off.toInt else s.pc + 1)) :=
  congrArg _ ((readReg_of_val hx).trans ((readReg_of_val hy).trans (branch_of_iff h)))

theorem next_jump32K {cond : BitVec 32 → BitVec 32 → Bool} (hx : getReg s.regs d = .val x)
    (h : cond (x.setWidth 32) imm = true ↔ P) :
    (.next (jump32K cond d off imm s) : Result) = .next (wentTo s (if P then s.pc + 1 + off.toInt else s.pc + 1)) :=
  congrArg _ ((readReg_of_val hx).trans (branch_of_iff h))

theorem next_jump32X {cond : BitVec 32 → BitVec 32 → Bool} (hx : getReg s.regs d = .val x)
    (hy : getReg s.regs r = .val y) (h : cond (x.setWidth 32) (y.setWidth 32) = true ↔ P) :
    (.next (jump32X cond d r off s) : Result) = .next (wentTo s (if P then s.pc + 1 + off.toInt else s.pc + 1)) :=
  congrArg _ ((readReg_of_val hx).trans ((readReg_of_val hy).trans (branch_of_iff h)))

end

/-- Settles O15: each jump by the lemma of its operand form and of its condition. -/
theorem conditionalJump64Result : Obligations.ConditionalJump64Result := by
  unfold Obligations.ConditionalJump64Result
  refine ⟨fun d off imm s x hx => ?_, fun d r off s x y hx hy => ?_⟩
  · exact ⟨next_jump64K hx condEq_iff, next_jump64K hx condNe_iff, next_jump64K hx condSet_iff,
      next_jump64K hx condGt_iff, next_jump64K hx condGe_iff, next_jump64K hx condLt_iff, next_jump64K hx condLe_iff,
      next_jump64K hx condSgt_iff, next_jump64K hx condSge_iff, next_jump64K hx condSlt_iff,
      next_jump64K hx condSle_iff⟩
  · exact ⟨next_jump64X hx hy condEq_iff, next_jump64X hx hy condNe_iff, next_jump64X hx hy condSet_iff,
      next_jump64X hx hy condGt_iff, next_jump64X hx hy condGe_iff, next_jump64X hx hy condLt_iff,
      next_jump64X hx hy condLe_iff, next_jump64X hx hy condSgt_iff, next_jump64X hx hy condSge_iff,
      next_jump64X hx hy condSlt_iff, next_jump64X hx hy condSle_iff⟩

/-- Settles O16: each jump by the lemma of its operand form and of its condition. -/
theorem conditionalJump32Result : Obligations.ConditionalJump32Result := by
  unfold Obligations.ConditionalJump32Result
  refine ⟨fun d off imm s x hx => ?_, fun d r off s x y hx hy => ?_⟩
  · exact ⟨next_jump32K hx condEq_iff, next_jump32K hx condNe_iff, next_jump32K hx condSet_iff,
      next_jump32K hx condGt_iff, next_jump32K hx condGe_iff, next_jump32K hx condLt_iff, next_jump32K hx condLe_iff,
      next_jump32K hx condSgt_iff, next_jump32K hx condSge_iff, next_jump32K hx condSlt_iff,
      next_jump32K hx condSle_iff⟩
  · exact ⟨next_jump32X hx hy condEq_iff, next_jump32X hx hy condNe_iff, next_jump32X hx hy condSet_iff,
      next_jump32X hx hy condGt_iff, next_jump32X hx hy condGe_iff, next_jump32X hx hy condLt_iff,
      next_jump32X hx hy condLe_iff, next_jump32X hx hy condSgt_iff, next_jump32X hx hy condSge_iff,
      next_jump32X hx hy condSlt_iff, next_jump32X hx hy condSle_iff⟩

/-! ## Calls and returns -/

theorem callLocal_of_room {s : State} (hroom : ∀ n, s.plat.maxCallDepth = some n → s.cs.length < n) (imm : Imm) :
    callLocal imm s = jumpTo (pushFrame s (s.pc + 1)) (immTarget s.pc imm) := by
  simp [callLocal, callStackFull_eq_false_iff.mpr hroom]

theorem callLocal_of_full {s : State} {n : Nat} (hmax : s.plat.maxCallDepth = some n) (hle : n ≤ s.cs.length)
    (imm : Imm) : callLocal imm s = stopped s (.callDepthExceeded s.pc) := by
  simp only [callLocal, callStackFull_of_le hmax hle, if_true]
  rfl

theorem exitOp_of_nil {s : State} (hcs : s.cs = []) : exitOp s = endRun s := by
  simp [exitOp, hcs]

theorem exitOp_of_cons {s : State} {f : Frame} {rest : List Frame} (hcs : s.cs = f :: rest) :
    exitOp s = jumpTo (popFrame s f rest) f.ret := by
  simp [exitOp, hcs]

theorem returnRegs_of_bare {s : State} (h : s.plat.callFrame = .bare) (f : Frame) : returnRegs s f = s.regs := by
  simp [returnRegs, h]

theorem returnRegs_of_saved {s : State} {f : Frame} {v : SavedRegs} (h : s.plat.callFrame = .saved)
    (hf : f.saved = some v) : returnRegs s f = restoreRegs s.regs v := by
  simp [returnRegs, h, hf]

/-- Settles O17: the frame by the value of `CALL_FRAME`, and the depth fault. -/
theorem callLocalPushesFrame : Obligations.CallLocalPushesFrame := by
  unfold Obligations.CallLocalPushesFrame
  refine fun imm s => ⟨fun hroom => ⟨fun hbare => ?_, fun hsaved => ?_⟩, fun n hmax hle => ?_⟩
  · refine congrArg _ ((callLocal_of_room hroom imm).trans ?_)
    rw [pushFrame, makeFrame_of_bare hbare]
    rfl
  · refine congrArg _ ((callLocal_of_room hroom imm).trans ?_)
    rw [pushFrame, makeFrame_of_saved hsaved]
    rfl
  · exact congrArg _ (callLocal_of_full hmax hle imm)

/-- Settles O18: the empty stack ends the run; else the registers by the value of `CALL_FRAME`. -/
theorem exitReturnsOrEndsRun : Obligations.ExitReturnsOrEndsRun := by
  unfold Obligations.ExitReturnsOrEndsRun
  refine fun s => ⟨fun hnil => ?_, fun f rest hcs => ⟨fun hbare => ?_, fun v hsaved hf => ?_⟩⟩
  · exact congrArg _ (exitOp_of_nil hnil)
  · refine congrArg _ ((exitOp_of_cons hcs).trans ?_)
    rw [popFrame, returnRegs_of_bare hbare]
    rfl
  · refine congrArg _ ((exitOp_of_cons hcs).trans ?_)
    rw [popFrame, returnRegs_of_saved hsaved hf]
    rfl

/-- Settles O19: the call pushes `makeFrame s (s.pc + 1)`, and EXIT pops that frame. -/
theorem callThenExitReturns : Obligations.CallThenExitReturns := by
  unfold Obligations.CallThenExitReturns
  intro imm s hroom
  refine ⟨_, congrArg Host.Outcome.next (callLocal_of_room hroom imm), fun u hplat hcs => ?_⟩
  have hcs' : u.cs = makeFrame s (s.pc + 1) :: s.cs := hcs
  have hplat' : u.plat = s.plat := hplat
  refine ⟨_, congrArg Host.Outcome.next (exitOp_of_cons hcs'), rfl, ?_, rfl, rfl, fun hbare => ?_, fun hsaved => ?_⟩
  · cases h : s.plat.callFrame with
    | bare => rw [makeFrame_of_bare h]; rfl
    | saved => rw [makeFrame_of_saved h]; rfl
  · exact returnRegs_of_bare (hplat' ▸ hbare) _
  · have hregs := returnRegs_of_saved (s := u) (hplat' ▸ hsaved)
      (congrArg Frame.saved (makeFrame_of_saved hsaved (s.pc + 1)))
    simp [hregs, restoreRegs, saveRegs, getReg]

/-! ## The step and the entry state -/

/-- Inside the program the fetch answers what the slot at `pc` decodes to (R85, R404). -/
theorem fetch_of_decode {s : State} {slot : Slot} {i : Instr} (hpc : 0 ≤ s.pc) (hslot : s.prog[s.pc.toNat]? = some slot)
    (hdec : decode s.plat.endian s.plat.groups slot s.prog[s.pc.toNat + 1]? = .ok i) : fetch s = .ok i := by
  simp [fetch, Int.not_lt.mpr hpc, hslot, hdec]

/-- Settles O47: `ENV` leaves `pc`, the program and the parameters, so the fetch behind it answers the same
instruction. -/
theorem stepRunsDecodedInstruction : Obligations.StepRunsDecodedInstruction := by
  unfold Obligations.StepRunsDecodedInstruction
  intro s slot i hrun hpc hslot hdec
  have hfetch : fetch (envTick s) = .ok i := by
    apply fetch_of_decode (slot := slot) <;> simpa
  have hstep : step s = exec i (envTick s) := by
    rw [step_of_running hrun, runInstruction, hfetch]
  refine ⟨hstep, fun henv => ?_⟩
  rw [hstep, envTick_of_empty s henv]

/-- An empty call stack and a canonical memory meet the invariant, whatever the parameters. -/
theorem stateInv_of_cs_nil {s : State} (hmem : memoryWf s.mem = true) (hcs : s.cs = []) : StateInv s := by
  refine ⟨hmem, by rw [hcs]; rfl, depthFits_iff.mpr fun n _ => ?_⟩
  rw [hcs]
  exact Nat.zero_le n

/-- Settles O55: at entry the call stack is empty. -/
theorem invariantAtEntry : Obligations.InvariantAtEntry := by
  unfold Obligations.InvariantAtEntry
  exact ⟨stateInv_of_cs_nil memoryWf_reset rfl, fun p prog x m env replies hmem => stateInv_of_cs_nil hmem rfl⟩

/-- Settles O56: field by field, as `State.entry` sets them. -/
theorem entryState : Obligations.EntryState := by
  unfold Obligations.EntryState
  refine ⟨fun p prog x m env replies => ?_, ⟨_, _, _, _, _, _, rfl⟩⟩
  exact ⟨rfl, rfl, rfl, fun _ => rfl, rfl, rfl, rfl, rfl, rfl, rfl⟩

/-! ## Unwritten registers -/

/-- A meaning that begins with a read of an unwritten register stops there (R405). -/
theorem next_readReg_of_unwritten {i : RegIdx} {s : State} {k : Word → State} (h : getReg s.regs i = .unwritten) :
    (.next (readReg i s k) : Result) = .next (stopped s (.uninitRegister i)) :=
  congrArg _ (readReg_of_unwritten h)

/-- A meaning that reads a written register and then an unwritten one stops at the second (R411). -/
theorem next_readReg_readReg_of_unwritten {i j : RegIdx} {s : State} {x : Word} {k : Word → Word → State}
    (hx : getReg s.regs i = .val x) (h : getReg s.regs j = .unwritten) :
    (.next (readReg i s fun a => readReg j s (k a)) : Result) = .next (stopped s (.uninitRegister j)) :=
  congrArg _ ((readReg_of_val hx).trans (readReg_of_unwritten h))

/-- CMPXCHG reads `r0` last (R411). -/
theorem compareExchange_of_unwritten {z : Size} {d r : RegIdx} {off : Off} {s : State} {x y : Word}
    (hx : getReg s.regs d = .val x) (hy : getReg s.regs r = .val y) (h : getReg s.regs .r0 = .unwritten) :
    compareExchange z d r off s = stopped s (.uninitRegister .r0) :=
  (readReg_of_val hx).trans ((readReg_of_val hy).trans (readReg_of_unwritten h))

/-- Settles O37: every listed instruction begins with the reads of its clause, by its definition. -/
theorem unwrittenRegisterFaults : Obligations.UnwrittenRegisterFaults := by
  unfold Obligations.UnwrittenRegisterFaults
  refine fun d r off imm s => ⟨fun hd => ?_, fun x hx hr => ?_, fun hr => ?_, fun x y hx hy h0 => ?_⟩
    <;> refine List.forall_iff_forall_mem.mp ?_
  · and_intros <;> exact next_readReg_of_unwritten hd
  · and_intros <;> exact next_readReg_readReg_of_unwritten hx hr
  · and_intros <;> exact next_readReg_of_unwritten hr
  · and_intros <;> exact congrArg _ (compareExchange_of_unwritten hx hy h0)

end Sys2Proof.Machine
end

section
/-! What a store leaves in memory, and the compare-and-exchange atomics. -/
namespace Sys2Proof.Machine

/-! ## The bytes of a store -/

theorem byteAddr_zero (a : Word) : byteAddr a 0 = a.toNat := by simp [byteAddr]

theorem byteAddr_succ (a : Word) (i : Nat) : byteAddr a (i + 1) = byteAddr (a + 1) i := by
  rw [byteAddr, byteAddr, Nat.add_comm i, BitVec.ofNat_add, ← BitVec.add_assoc]
  rfl

/-- Fewer than `2^64` bytes apart, different places have different addresses. -/
theorem byteAddr_inj {a : Word} {i j : Nat} (hi : i < 2 ^ 64) (hj : j < 2 ^ 64) (h : byteAddr a i = byteAddr a j) :
    i = j := by
  simp only [byteAddr, BitVec.toNat_add, BitVec.toNat_ofNat] at h
  omega

/-- A byte outside the addresses written reads as before (R44). -/
theorem readByte_writeBytes_of_ne {bs : List Byte} {m : Memory} {a : Word} {x : Nat} (hm : memoryWf m = true)
    (h : ∀ i, i < bs.length → x ≠ byteAddr a i) : readByte (writeBytes m a bs) x = readByte m x := by
  induction bs generalizing m a with
  | nil => rfl
  | cons b bs ih =>
    have hfirst : x ≠ a.toNat := byteAddr_zero a ▸ h 0 (by simp)
    rw [writeBytes, ih (memoryWf_writeByte hm a.isLt b), readByte_writeByte hm, if_neg hfirst]
    intro i hi
    rw [← byteAddr_succ]
    exact h (i + 1) (by simpa using hi)

/-- A byte written reads as its byte of the list, unless the list is longer than the address space (R44). -/
theorem readByte_writeBytes {bs : List Byte} {m : Memory} {a : Word} {i : Nat} (hm : memoryWf m = true)
    (hlen : bs.length ≤ 2 ^ 64) (hi : i < bs.length) : readByte (writeBytes m a bs) (byteAddr a i) = bs[i] := by
  induction bs generalizing m a i with
  | nil => simp at hi
  | cons b bs ih =>
    have hwf := memoryWf_writeByte hm a.isLt b
    rw [List.length_cons] at hlen hi
    rw [writeBytes]
    cases i with
    | zero =>
      have hlater : ∀ j, j < bs.length → byteAddr a 0 ≠ byteAddr (a + 1) j := fun j hj heq => by
        rw [← byteAddr_succ] at heq
        exact absurd (byteAddr_inj (by omega) (by omega) heq) (by omega)
      rw [readByte_writeBytes_of_ne hwf hlater, readByte_writeByte hm, if_pos (byteAddr_zero a), List.getElem_cons_zero]
    | succ i => rw [byteAddr_succ, ih hwf (by omega) (by omega), List.getElem_cons_succ]

@[simp] theorem length_bytesOf {n : Nat} (k : Nat) (v : BitVec n) : (bytesOf k v).length = k := by simp [bytesOf]

theorem getElem_hostOrder (e : Endian) {bs : List Byte} {i : Nat} (h : i < bs.length) :
    (hostOrder e bs)[i]'(by simpa using h) = bs[bytePlace e bs.length i]'(bytePlace_lt h) := by
  cases e with
  | little => rfl
  | big => simp [hostOrder, bytePlace]

/-- A store leaves the bytes of the value, in host byte order, and no other byte changed (R44 step 3). -/
theorem stored_storeValue {m : Memory} (hm : memoryWf m = true) (e : Endian) (a : Word) (z : Size)
    (v : BitVec (sizeBits z)) : Stored e m (storeValue e m a z v) a (sizeBytes z) v := by
  have hlen : (hostOrder e (bytesOf (sizeBytes z) v)).length = sizeBytes z := by simp
  have hsmall : sizeBytes z ≤ 2 ^ 64 := by cases z <;> decide
  refine ⟨fun i hi => ?_, fun x hx => readByte_writeBytes_of_ne hm (hlen.symm ▸ hx), memoryWf_storeValue hm e a z v⟩
  rw [storeValue, readByte_writeBytes hm (hlen.symm ▸ hsmall) (hlen.symm ▸ hi), getElem_hostOrder e (by simpa using hi)]
  simp [bytesOf]

/-! ## Atomics -/

/-- An admitted atomic answers the old value and the state after the new one is stored (R55). -/
theorem atomicRMW_of_admitted {s : State} {a : Word} {z : Size} (f : BitVec (sizeBits z) → BitVec (sizeBits z))
    (h : Admitted s a z .atomic) :
    atomicRMW s a z f = .ok (loadValue s.plat.endian s.mem a z,
      setMem s (storeValue s.plat.endian s.mem a z (f (loadValue s.plat.endian s.mem a z)))) := by
  rw [atomicRMW, checkAccess_of_admitted h]

/-- CMPXCHG at either width (R328, R338). -/
theorem compareExchange_of_admitted {z : Size} {d r : RegIdx} {off : Off} {s : State} {base v e : Word}
    (hm : memoryWf s.mem = true) (hd : getReg s.regs d = .val base) (hr : getReg s.regs r = .val v)
    (h0 : getReg s.regs .r0 = .val e) (hadm : Admitted s (effectiveAddress base off) z .atomic) :
    ∃ (old : BitVec (sizeBits z)) (m : Memory),
      BytesAt s.plat.endian s.mem (effectiveAddress base off) (sizeBytes z) old ∧
      Stored s.plat.endian s.mem m (effectiveAddress base off) (sizeBytes z)
        (if old = lowBits z e then lowBits z v else old) ∧
      compareExchange z d r off s = { wroteMem s m with regs := putReg s.regs .r0 (.val (zext64 old)) } := by
  refine ⟨_, _, bytesAt_loadValue _ _ _ _, stored_storeValue hm _ _ z _, ?_⟩
  rw [compareExchange, readReg_of_val hd, readReg_of_val hr, readReg_of_val h0, atomicRMW_of_admitted _ hadm,
    orRaise_ok]
  rfl

/-- Settles O34: both widths are `compareExchange_of_admitted`; at 64 bits the low bits are the register itself. -/
theorem compareExchangeResult : Obligations.CompareExchangeResult := by
  unfold Obligations.CompareExchangeResult
  refine fun d r off s base v e hm hd hr h0 => ⟨fun hadm => ?_, fun hadm => ?_⟩
  · obtain ⟨old, m, hold, hstored, hnext⟩ := compareExchange_of_admitted hm hd hr h0 hadm
    exact ⟨old, m, hold, hstored, congrArg _ hnext⟩
  · obtain ⟨old, m, hold, hstored, hnext⟩ := compareExchange_of_admitted hm hd hr h0 hadm
    have hlow : ∀ x : Word, lowBits .dw x = x := BitVec.setWidth_eq
    rw [hlow, hlow] at hstored
    exact ⟨old, m, hold, hstored, congrArg _ hnext⟩

end Sys2Proof.Machine
end

section
/-! Decoding what the encoder lays out: each operand form reads back what it was given, each selector and each opcode
byte leads to its row. -/
namespace Sys2Proof

/-! ## The operand forms -/

section
variable (op : Byte) (src : BitVec 4) (off : Off) (imm n : Imm) (d s : RegIdx) (next : Option InsnWord)

theorem useReg_fieldOfReg (r : RegIdx) (k : RegIdx → Except Reject Instr) : useReg (fieldOfReg r) k = k r := by
  rw [useReg, regOfField_fieldOfReg]

/-- The second slot the encoder lays out hands its `next_imm` on (R77). -/
theorem useNext_secondWord (k : Imm → Except Reject Instr) : useNext (some (secondWord n)) k = k n := by
  have hlow : (secondWord n).extractLsb' 0 32 = 0 := by ext i hi; simp [secondWord]; omega
  have hhigh : (secondWord n).extractLsb' 32 32 = n := by
    ext i hi
    simp [secondWord, show 32 + i < 64 by omega, BitVec.getLsbD_eq_getElem hi]
  rw [useNext, hlow, hhigh, if_pos (beq_self_eq_true _)]

theorem formK_encK (mk : RegIdx → Imm → Instr) : formK mk (encK op off d imm) next = .ok (mk d imm) :=
  useReg_fieldOfReg d _

theorem formX_encX (mk : RegIdx → RegIdx → Instr) : formX mk (encX op off d s) next = .ok (mk d s) :=
  (useReg_fieldOfReg d _).trans (useReg_fieldOfReg s _)

theorem formNeg_encK (mk : RegIdx → Instr) : formNeg mk (encK op 0 d 0) next = .ok (mk d) :=
  useReg_fieldOfReg d _

theorem formEnd_encK (mk : RegIdx → Instr) : formEnd mk (encK op 0 d imm) next = .ok (mk d) :=
  useReg_fieldOfReg d _

theorem formJa_encNone (mk : Off → Instr) : formJa mk (encNone op 0 off 0) next = .ok (mk off) := rfl

theorem formJa32_encNone (mk : Imm → Instr) : formJa32 mk (encNone op 0 0 imm) next = .ok (mk imm) := rfl

theorem formCall_encNone (mk : Imm → Instr) : formCall mk (encNone op src 0 imm) next = .ok (mk imm) := rfl

theorem formExit_encNone (i : Instr) : formExit i (encNone op 0 0 0) next = .ok i := rfl

theorem formAbs_encNone (mk : Imm → Instr) : formAbs mk (encNone op 0 0 imm) next = .ok (mk imm) := rfl

theorem formJumpK_encDst (mk : RegIdx → Off → Imm → Instr) :
    formJumpK mk (encDst op 0 d off imm) next = .ok (mk d off imm) :=
  useReg_fieldOfReg d _

theorem formOff_encBoth (mk : RegIdx → RegIdx → Off → Instr) :
    formOff mk (encBoth op d s off 0) next = .ok (mk d s off) :=
  (useReg_fieldOfReg d _).trans (useReg_fieldOfReg s _)

theorem formAtomic_encBoth (mk : RegIdx → RegIdx → Off → Instr) :
    formAtomic mk (encBoth op d s off imm) next = .ok (mk d s off) :=
  (useReg_fieldOfReg d _).trans (useReg_fieldOfReg s _)

theorem formInd_encSrc (mk : RegIdx → Imm → Instr) : formInd mk (encSrc op s imm) next = .ok (mk s imm) :=
  useReg_fieldOfReg s _

theorem formWide_encDst (mk : RegIdx → Imm → Imm → Instr) :
    formWide mk (encDst op src d 0 imm) (some (secondWord n)) = .ok (mk d imm n) :=
  (useReg_fieldOfReg d _).trans (useNext_secondWord n _)

theorem formWideNoNext_encDst (mk : RegIdx → Imm → Instr) :
    formWideNoNext mk (encDst op src d 0 imm) (some (secondWord 0)) = .ok (mk d imm) :=
  (useReg_fieldOfReg d _).trans (useNext_secondWord 0 _)

end

/-! ## Rows -/

/-- The opcode tables, table by table. -/
def opcodeTables : List (List (Nat × Arm)) :=
  [aluTable, alu64Table, endTable, jmpTable, jmp32Table, loadStoreTable, atomicTable, imm64Table, packetTable]

theorem opcodeTable_eq_flatten : opcodeTable = opcodeTables.flatten := by
  simp [opcodeTable, opcodeTables]

/-- No opcode byte stands in two rows (R91). -/
theorem opcodeTable_keys_nodup : (opcodeTable.map Prod.fst).Nodup := by decide +kernel

/-- A row is found by its key, where no key stands in two rows. -/
theorem lookup_of_mem {rows : List (Nat × Arm)} (hkeys : (rows.map Prod.fst).Nodup) {v : Nat} {arm : Arm}
    (h : (v, arm) ∈ rows) : rows.lookup v = some arm := by
  obtain ⟨before, after, rfl⟩ := List.append_of_mem h
  refine List.lookup_eq_some_iff.mpr ⟨before, after, rfl, fun row hrow => ?_⟩
  rw [List.map_append, List.nodup_append] at hkeys
  obtain ⟨-, -, hdisjoint⟩ := hkeys
  have hne : row.1 ≠ v := hdisjoint _ (List.mem_map_of_mem hrow) _ (by simp)
  simpa using hne.symm

/-- A row found in one of the tables is the row of its opcode byte (R91). -/
theorem opcodeTable_lookup_of_table {table : List (Nat × Arm)} (htable : table ∈ opcodeTables) {v : Nat} {arm : Arm}
    (h : table.lookup v = some arm) : opcodeTable.lookup v = some arm := by
  obtain ⟨before, after, hrows, -⟩ := List.lookup_eq_some_iff.mp h
  refine lookup_of_mem opcodeTable_keys_nodup ?_
  rw [opcodeTable_eq_flatten]
  exact List.mem_flatten.mpr ⟨table, htable, by simp [hrows]⟩

section
variable {f : Fields} {next : Option InsnWord} {arm : Arm} {i : Instr}

/-- The opcode byte leads to its row (R85 step 1); the row is sought in the `k`-th table alone. -/
theorem decodeWord_of_row (k : Nat) {table : List (Nat × Arm)} (htable : opcodeTables[k]? = some table)
    (hrow : table.lookup f.opcode.toNat = some arm) (harm : arm f next = .ok i) :
    decodeWord (wordOf f) next = .ok i := by
  have hfound := opcodeTable_lookup_of_table (List.mem_of_getElem? htable) hrow
  simp only [decodeWord, fieldsOf_wordOf, hfound, harm]

/-- A selector field leads to its row (R85 step 2). -/
theorem select_of_row {v : Nat} {rows : List (Nat × Arm)} (hrow : rows.lookup v = some arm)
    (harm : arm f next = .ok i) : select v rows f next = .ok i := by
  simp only [select, hrow, harm]

end

/-- The word of an instruction's first slot decodes to it, when a wide instruction's second slot follows (R76, R84,
R85). The cases go table by table, in each by operand form; `select_of_row` stands where a selector chooses the row. -/
theorem decodeWord_encodeFields {i : Instr} (hwf : i.wf = true) {next : Option InsnWord}
    (hnext : ∀ n, encodeNext i = some n → next = some (secondWord n)) :
    decodeWord (wordOf (encodeFields i)) next = .ok i := by
  cases i with
  -- class ALU
  | add32K | sub32K | mul32K | div32K | sdiv32K | or32K | and32K | lsh32K | rsh32K | mod32K | smod32K | xor32K | mov32K
  | arsh32K => exact decodeWord_of_row 0 rfl rfl (select_of_row rfl (formK_encK ..))
  | add32X | sub32X | mul32X | div32X | sdiv32X | or32X | and32X | lsh32X | rsh32X | mod32X | smod32X | xor32X | mov32X
  | arsh32X | movsx32_8 | movsx32_16 => exact decodeWord_of_row 0 rfl rfl (select_of_row rfl (formX_encX ..))
  | neg32 => exact decodeWord_of_row 0 rfl rfl (formNeg_encK ..)
  -- class ALU64
  | add64K | sub64K | mul64K | div64K | sdiv64K | or64K | and64K | lsh64K | rsh64K | mod64K | smod64K | xor64K | mov64K
  | arsh64K => exact decodeWord_of_row 1 rfl rfl (select_of_row rfl (formK_encK ..))
  | add64X | sub64X | mul64X | div64X | sdiv64X | or64X | and64X | lsh64X | rsh64X | mod64X | smod64X | xor64X | mov64X
  | arsh64X | movsx64_8 | movsx64_16 | movsx64_32 =>
    exact decodeWord_of_row 1 rfl rfl (select_of_row rfl (formX_encX ..))
  | neg64 => exact decodeWord_of_row 1 rfl rfl (formNeg_encK ..)
  -- byte swaps
  | le16 | le32 | le64 | be16 | be32 | be64 | bswap16 | bswap32 | bswap64 =>
    exact decodeWord_of_row 2 rfl rfl (select_of_row rfl (formEnd_encK ..))
  -- class JMP
  | ja => exact decodeWord_of_row 3 rfl rfl (formJa_encNone ..)
  | jeq64K | jgt64K | jge64K | jset64K | jne64K | jsgt64K | jsge64K | jlt64K | jle64K | jslt64K | jsle64K =>
    exact decodeWord_of_row 3 rfl rfl (formJumpK_encDst ..)
  | jeq64X | jgt64X | jge64X | jset64X | jne64X | jsgt64X | jsge64X | jlt64X | jle64X | jslt64X | jsle64X =>
    exact decodeWord_of_row 3 rfl rfl (formOff_encBoth ..)
  | callHelper | callLocal | callBtf => exact decodeWord_of_row 3 rfl rfl (select_of_row rfl (formCall_encNone ..))
  | exit => exact decodeWord_of_row 3 rfl rfl (formExit_encNone ..)
  -- class JMP32
  | ja32 => exact decodeWord_of_row 4 rfl rfl (formJa32_encNone ..)
  | jeq32K | jgt32K | jge32K | jset32K | jne32K | jsgt32K | jsge32K | jlt32K | jle32K | jslt32K | jsle32K =>
    exact decodeWord_of_row 4 rfl rfl (formJumpK_encDst ..)
  | jeq32X | jgt32X | jge32X | jset32X | jne32X | jsgt32X | jsge32X | jlt32X | jle32X | jslt32X | jsle32X =>
    exact decodeWord_of_row 4 rfl rfl (formOff_encBoth ..)
  -- loads and stores
  | stw | sth | stb | stdw => exact decodeWord_of_row 5 rfl rfl (formJumpK_encDst ..)
  | ldxw | ldxh | ldxb | ldxdw | ldxsw | ldxsh | ldxsb | stxw | stxh | stxb | stxdw =>
    exact decodeWord_of_row 5 rfl rfl (formOff_encBoth ..)
  -- atomics
  | atomicAdd32 | atomicOr32 | atomicAnd32 | atomicXor32 | atomicAdd64 | atomicOr64 | atomicAnd64 | atomicXor64
  | atomicFetchAdd32 | atomicFetchOr32 | atomicFetchAnd32 | atomicFetchXor32 | xchg32 | cmpxchg32
  | atomicFetchAdd64 | atomicFetchOr64 | atomicFetchAnd64 | atomicFetchXor64 | xchg64 | cmpxchg64 =>
    exact decodeWord_of_row 6 rfl rfl (select_of_row rfl (formAtomic_encBoth ..))
  -- wide instructions
  | lddwImm | lddwMapFdVal | lddwMapIdxVal =>
    rw [hnext _ rfl]
    exact decodeWord_of_row 7 rfl rfl (select_of_row rfl (formWide_encDst ..))
  | lddwMapFd | lddwVar | lddwCode | lddwMapIdx =>
    rw [hnext _ rfl]
    exact decodeWord_of_row 7 rfl rfl (select_of_row rfl (formWideNoNext_encDst ..))
  -- legacy packet instructions
  | ldabsw | ldabsh | ldabsb => exact decodeWord_of_row 8 rfl rfl (formAbs_encNone ..)
  | ldindw | ldindh | ldindb => exact decodeWord_of_row 8 rfl rfl (formInd_encSrc ..)
  -- the second slot of a wide instruction is none (R349)
  | imm64SecondSlot => exact absurd hwf Bool.false_ne_true

/-- The first slot of a supported instruction decodes to it, when a wide instruction's second slot follows. -/
theorem decode_slotOfWord {e : Endian} {gs : List Group} {i : Instr} {next : Option Slot} (hwf : i.wf = true)
    (hsup : supports gs i.group = true)
    (hnext : ∀ n, encodeNext i = some n → next = some (slotOfWord e (secondWord n))) :
    decode e gs (slotOfWord e (wordOf (encodeFields i))) next = .ok i := by
  refine decode_eq_ok_iff.mpr ⟨?_, hsup⟩
  rw [wordOfSlot_slotOfWord]
  refine decodeWord_encodeFields hwf fun n hn => ?_
  rw [hnext n hn, Option.map_some, wordOfSlot_slotOfWord]

/-- Settles O42: a basic instruction is its first slot, whatever follows; a wide one brings its second slot. -/
theorem decodeOfEncode : Obligations.DecodeOfEncode := by
  unfold Obligations.DecodeOfEncode
  intro e gs i after hwf hsup
  cases h : encodeNext i with
  | none =>
    refine ⟨_, [], by simp only [encode, encodeWords, h]; rfl, decode_slotOfWord hwf hsup fun n hn => ?_⟩
    simp [h] at hn
  | some n =>
    refine ⟨_, [slotOfWord e (secondWord n)], by simp only [encode, encodeWords, h]; rfl,
      decode_slotOfWord hwf hsup fun k hk => ?_⟩
    cases h.symm.trans hk
    rfl

end Sys2Proof
end

section
/-! Data memory: equal reads make equal memories, the bytes at an address determine the value there, and a narrow read
sees its part of a wider store. -/
namespace Sys2Proof.Machine

/-! ## The canonical form -/

theorem readByte_cons_self (c : Host.Cell) (m : Memory) : readByte (c :: m) c.1 = c.2 := by simp [readByte]

theorem readByte_cons_of_ne {c : Host.Cell} {m : Memory} {a : Nat} (h : c.1 ≠ a) :
    readByte (c :: m) a = readByte m a := by simp [readByte, h]

/-- Where two canonical lists read alike, the first does not begin below the second: its first entry reads otherwise
than an unlisted address. -/
theorem not_lt_of_readByte_eq {lo lo' : Nat} {c : Host.Cell} {m m' : Memory} (hm : memoryWfFrom lo (c :: m) = true)
    (hm' : memoryWfFrom lo' m' = true) (h : ∀ a, a < 2 ^ 64 → readByte (c :: m) a = readByte m' a) : ¬ c.1 < lo' := by
  intro hlt
  obtain ⟨-, hbound, hlisted, -⟩ := (memoryWfFrom_cons _ _ _).mp hm
  have hread := h c.1 hbound
  rw [readByte_cons_self, readByte_of_lt hm' hlt] at hread
  exact hlisted hread

/-- Canonical lists that read alike are the same list, entry by entry. -/
theorem eq_of_readByte_eq {lo : Nat} {m m' : Memory} (hm : memoryWfFrom lo m = true) (hm' : memoryWfFrom lo m' = true)
    (h : ∀ a, a < 2 ^ 64 → readByte m a = readByte m' a) : m = m' := by
  induction m generalizing lo m' with
  | nil =>
    cases m' with
    | nil => rfl
    | cons c' m' =>
      exact absurd (Nat.lt_succ_self _) (not_lt_of_readByte_eq hm' (m' := []) rfl fun a ha => (h a ha).symm)
  | cons c m ih =>
    cases m' with
    | nil => exact absurd (Nat.lt_succ_self _) (not_lt_of_readByte_eq hm (m' := []) rfl h)
    | cons c' m' =>
      obtain ⟨-, hbound, hlisted, hrest⟩ := (memoryWfFrom_cons _ _ _).mp hm
      obtain ⟨-, hbound', hlisted', hrest'⟩ := (memoryWfFrom_cons _ _ _).mp hm'
      have hge := not_lt_of_readByte_eq hm ((memoryWfFrom_cons c'.1 _ _).mpr ⟨le_rfl, hbound', hlisted', hrest'⟩) h
      have hle := not_lt_of_readByte_eq hm' ((memoryWfFrom_cons c.1 _ _).mpr ⟨le_rfl, hbound, hlisted, hrest⟩)
        fun a ha => (h a ha).symm
      have haddr : c.1 = c'.1 := by omega
      have hbyte : c.2 = c'.2 := by
        have hread := h c.1 hbound
        rwa [readByte_cons_self, haddr, readByte_cons_self] at hread
      have htail : m = m' := ih hrest (haddr ▸ hrest') fun a ha => by
        by_cases hlt : a < c.1 + 1
        · rw [readByte_of_lt hrest hlt, readByte_of_lt hrest' (haddr ▸ hlt)]
        · have hread := h a ha
          rwa [readByte_cons_of_ne (by omega), readByte_cons_of_ne (by omega)] at hread
      rw [Prod.ext haddr hbyte, htail]

/-- Settles O59: from the lower bound 0 on, by induction over the first list. -/
theorem canonicalMemoryUnique : Obligations.CanonicalMemoryUnique := by
  unfold Obligations.CanonicalMemoryUnique
  exact fun m m' hm hm' h => eq_of_readByte_eq hm hm' h

/-! ## The bytes of a value -/

/-- The address of byte `i` as a number (R43). -/
theorem byteAddr_eq_mod (a : Word) (i : Nat) : byteAddr a i = (a.toNat + i) % 2 ^ 64 := by
  simp [byteAddr]

theorem byteAddr_add (a : Word) (j i : Nat) : byteAddr (a + BitVec.ofNat 64 j) i = byteAddr a (j + i) := by
  rw [byteAddr, byteAddr, BitVec.ofNat_add, BitVec.add_assoc]

/-- Counting from the other end twice is counting from this end. -/
theorem bytePlace_bytePlace {e : Endian} {k i : Nat} (h : i < k) : bytePlace e k (bytePlace e k i) = i := by
  cases e with
  | little => rfl
  | big => simp only [bytePlace]; omega

/-- A value of `k` bytes is determined by them. -/
theorem eq_of_bytes_eq {k : Nat} {v w : BitVec (8 * k)}
    (h : ∀ i, i < k → v.extractLsb' (8 * i) 8 = w.extractLsb' (8 * i) 8) : v = w := by
  apply BitVec.eq_of_getLsbD_eq
  intro j hj
  have hbit := congrArg (fun b => b.getLsbD (j % 8)) (h (j / 8) (by omega))
  simpa [BitVec.getLsbD_extractLsb', Nat.mod_lt, Nat.div_add_mod] using hbit

namespace BytesAt
variable {e : Endian} {m : Memory} {a : Word} {k : Nat}

/-- The bytes at an address determine the value there. -/
theorem unique {v w : BitVec (8 * k)} (hv : BytesAt e m a k v) (hw : BytesAt e m a k w) : v = w :=
  eq_of_bytes_eq fun i hi => by
    have hplace := bytePlace_lt (e := e) hi
    have heq := (hv _ hplace).symm.trans (hw _ hplace)
    rwa [bytePlace_bytePlace hi] at heq

/-- Some of the bytes at an address are those of a part of the value: `k'` bytes from byte `j` on, which stand in the
value from its byte `low` on. -/
theorem part {n : Nat} {v : BitVec n} (hv : BytesAt e m a k v) {k' j low : Nat} (hj : j + k' ≤ k)
    (hlow : ∀ i, i < k' → bytePlace e k (j + i) = low + bytePlace e k' i) :
    BytesAt e m (a + BitVec.ofNat 64 j) k' (v.extractLsb' (8 * low) (8 * k')) := by
  intro i hi
  have hplace := bytePlace_lt (e := e) hi
  rw [byteAddr_add, hv (j + i) (by omega), hlow i hi, Nat.mul_add]
  ext b hb
  simp [show 8 * bytePlace e k' i + b < 8 * k' by omega, Nat.add_assoc]

end BytesAt

/-- What a load answers is the value whose bytes stand at the address. -/
theorem loadValue_eq {e : Endian} {m : Memory} {a : Word} {z : Size} {v : BitVec (sizeBits z)}
    (h : BytesAt e m a (sizeBytes z) v) : loadValue e m a z = v :=
  (bytesAt_loadValue e m a z).unique h

/-- Settles O25: a store leaves the bytes of the value, the bytes read are those of a part of it, and they determine
what is read. -/
theorem narrowReadSeesWideStore : Obligations.NarrowReadSeesWideStore := by
  unfold Obligations.NarrowReadSeesWideStore
  intro m a y z v j hm hj
  have hbytes (e : Endian) : BytesAt e (storeValue e m a y v) a (sizeBytes y) v := (stored_storeValue hm e a y v).1
  refine ⟨loadValue_eq ((hbytes .little).part hj fun i hi => ?_), loadValue_eq ((hbytes .big).part hj fun i hi => ?_)⟩
  · rfl
  · simp only [bytePlace]; omega

/-! ## The memory primitives -/

/-- A fault of the access check is the answer of the access (R43). -/
theorem memRead_of_error {s : State} {a : Word} {z : Size} {c : Cause} (h : checkAccess s.plat a z .read = .error c) :
    memRead s a z = .error c := by
  rw [memRead, h]

theorem memWrite_of_error {s : State} {a : Word} {z : Size} {c : Cause} (v : BitVec (sizeBits z))
    (h : checkAccess s.plat a z .write = .error c) : memWrite s a z v = .error c := by
  rw [memWrite, h]

theorem atomicRMW_of_error {s : State} {a : Word} {z : Size} {c : Cause} (f : BitVec (sizeBits z) → BitVec (sizeBits z))
    (h : checkAccess s.plat a z .atomic = .error c) : atomicRMW s a z f = .error c := by
  rw [atomicRMW, h]

/-- An admitted write stores the value (R44). -/
theorem memWrite_of_admitted {s : State} {a : Word} {z : Size} (v : BitVec (sizeBits z)) (h : Admitted s a z .write) :
    memWrite s a z v = .ok (setMem s (storeValue s.plat.endian s.mem a z v)) := by
  rw [memWrite, checkAccess_of_admitted h]

/-- A plain access is checked for alignment under `STRICT_ALIGN` only (R46). -/
theorem aligned_of_plain {p : Platform} {a : Word} {z : Size} {k : AccessKind} (hk : k ≠ .atomic)
    (h : p.strictAlign = true → a.toNat % sizeBytes z = 0) :
    (k = .atomic ∨ p.strictAlign = true) → a.toNat % sizeBytes z = 0 :=
  fun hkind => h (hkind.resolve_left hk)

/-- An access that passes the alignment check and that `MemOK` refuses is a `MemFault` (R407, R411). -/
theorem checkAccess_of_refused {p : Platform} {a : Word} {z : Size} {k : AccessKind}
    (haligned : (k = .atomic ∨ p.strictAlign = true) → a.toNat % sizeBytes z = 0) (hno : memOK p a z k = false) :
    checkAccess p a z k = .error (.memFault a z k) := by
  rw [checkAccess, if_neg fun ⟨hkind, hmis⟩ => hmis (haligned hkind), hno, if_neg Bool.false_ne_true]

/-- Settles O23: the three steps are the three answers of the access check. -/
theorem memReadSteps : Obligations.MemReadSteps := by
  unfold Obligations.MemReadSteps
  refine fun s a z => ⟨fun ⟨hstrict, hmis⟩ => ?misaligned, fun hpass => ?_⟩
  case misaligned => exact memRead_of_error (checkAccess_of_misaligned (.inr hstrict) hmis)
  have haligned := aligned_of_plain (k := .read) (by decide) (not_and_not_right.mp hpass)
  refine ⟨fun hno => memRead_of_error (checkAccess_of_refused haligned hno), fun hok => ?_⟩
  refine ⟨_, memRead_of_admitted ⟨haligned, hok⟩, fun i hi => ?_⟩
  rw [← byteAddr_eq_mod]
  exact (bytesAt_loadValue _ _ _ _ i hi).symm

/-- Settles O24: as for a read, and `stored_storeValue` says what the write leaves. -/
theorem memWriteSteps : Obligations.MemWriteSteps := by
  unfold Obligations.MemWriteSteps
  refine fun s a z v hm => ⟨fun ⟨hstrict, hmis⟩ => ?misaligned, fun hpass => ?_⟩
  case misaligned => exact memWrite_of_error v (checkAccess_of_misaligned (.inr hstrict) hmis)
  have haligned := aligned_of_plain (k := .write) (by decide) (not_and_not_right.mp hpass)
  obtain ⟨hbytes, honly, -⟩ := stored_storeValue hm s.plat.endian a z v
  refine ⟨fun hno => memWrite_of_error v (checkAccess_of_refused haligned hno), fun hok => ?_⟩
  refine ⟨_, memWrite_of_admitted v ⟨haligned, hok⟩, fun i hi => ?_, fun x hx => ?_⟩
  · rw [← byteAddr_eq_mod]
    exact hbytes i hi
  · exact honly x fun i hi => byteAddr_eq_mod a i ▸ hx i hi

end Sys2Proof.Machine
end

section
/-! Loads, stores and atomics: which instruction is which operation at which width, what an admitted access leaves, and
what a refused one does. -/
namespace Sys2Proof.Machine

/-! ## Rows of instructions -/

/-- A statement about the rows of a list, row by row. -/
theorem forall_rows {α β : Type} {rows : List (α × β)} (P : α → β → Prop) {i : α} {z : β} (hrow : (i, z) ∈ rows)
    (h : rows.Forall fun row => P row.1 row.2) : P i z :=
  List.forall_iff_forall_mem.mp h (i, z) hrow

section
variable (d r : RegIdx) (off : Off) (imm : Imm)

/-- The loads with their widths (R281, R282). -/
def loadRows : List (Instr × Size) :=
  [(.ldxb d r off, .b), (.ldxh d r off, .h), (.ldxw d r off, .w), (.ldxdw d r off, .dw),
    (.ldxsb d r off, .b), (.ldxsh d r off, .h), (.ldxsw d r off, .w)]

/-- The stores of an immediate with their widths (R283). -/
def storeImmediateRows : List (Instr × Size) :=
  [(.stb d off imm, .b), (.sth d off imm, .h), (.stw d off imm, .w), (.stdw d off imm, .dw)]

/-- The stores of a register with their widths (R284). -/
def storeRegisterRows : List (Instr × Size) :=
  [(.stxb d r off, .b), (.stxh d r off, .h), (.stxw d r off, .w), (.stxdw d r off, .dw)]

/-- The atomics that read two registers, with their widths (R311). -/
def atomicRows : List (Instr × Size) :=
  [(.atomicAdd32 d r off, .w), (.atomicFetchAdd32 d r off, .w), (.atomicOr32 d r off, .w),
    (.atomicFetchOr32 d r off, .w), (.atomicAnd32 d r off, .w), (.atomicFetchAnd32 d r off, .w),
    (.atomicXor32 d r off, .w), (.atomicFetchXor32 d r off, .w), (.xchg32 d r off, .w),
    (.atomicAdd64 d r off, .dw), (.atomicFetchAdd64 d r off, .dw),
    (.atomicOr64 d r off, .dw), (.atomicFetchOr64 d r off, .dw), (.atomicAnd64 d r off, .dw),
    (.atomicFetchAnd64 d r off, .dw), (.atomicXor64 d r off, .dw), (.atomicFetchXor64 d r off, .dw),
    (.xchg64 d r off, .dw)]

/-- The compare-and-exchange atomics with their widths (R328, R338). -/
def compareExchangeRows : List (Instr × Size) :=
  [(.cmpxchg32 d r off, .w), (.cmpxchg64 d r off, .dw)]

end

section
variable {d r : RegIdx} {off : Off} {imm : Imm} {s : State} {base v e : Word} {z : Size} {i : Instr} {c : Cause}

theorem exec_of_mem_storeImmediateRows (hrow : (i, z) ∈ storeImmediateRows d off imm) :
    exec i s = .next (storeImmediate z d off imm s) :=
  forall_rows (fun i z => exec i s = .next (storeImmediate z d off imm s)) hrow (by and_intros <;> rfl)

theorem exec_of_mem_storeRegisterRows (hrow : (i, z) ∈ storeRegisterRows d r off) :
    exec i s = .next (storeRegister z d r off s) :=
  forall_rows (fun i z => exec i s = .next (storeRegister z d r off s)) hrow (by and_intros <;> rfl)

theorem exec_of_mem_compareExchangeRows (hrow : (i, z) ∈ compareExchangeRows d r off) :
    exec i s = .next (compareExchange z d r off s) :=
  forall_rows (fun i z => exec i s = .next (compareExchange z d r off s)) hrow (by and_intros <;> rfl)

/-! ## Refused accesses -/

/-- A load whose access check fails stops with that fault (R401, R411). -/
theorem next_load_of_error {ext : BitVec (sizeBits z) → Word} (hbase : getReg s.regs r = .val base)
    (h : checkAccess s.plat (effectiveAddress base off) z .read = .error c) :
    (.next (load z ext d r off s) : Result) = .next (stopped s c) := by
  rw [load, readReg_of_val hbase, memRead_of_error h]
  rfl

theorem storeImmediate_of_error (hd : getReg s.regs d = .val base)
    (h : checkAccess s.plat (effectiveAddress base off) z .write = .error c) :
    storeImmediate z d off imm s = stopped s c := by
  rw [storeImmediate, readReg_of_val hd, memWrite_of_error _ h]
  rfl

theorem storeRegister_of_error (hd : getReg s.regs d = .val base) (hr : getReg s.regs r = .val v)
    (h : checkAccess s.plat (effectiveAddress base off) z .write = .error c) :
    storeRegister z d r off s = stopped s c := by
  rw [storeRegister, readReg_of_val hd, readReg_of_val hr, memWrite_of_error _ h]
  rfl

/-- An atomic of two registers whose access check fails stops with that fault, whatever it would have computed and done
with the old value. -/
theorem next_atomic_of_error {f : Word → BitVec (sizeBits z) → BitVec (sizeBits z)}
    {k : BitVec (sizeBits z) × State → State} (hd : getReg s.regs d = .val base) (hr : getReg s.regs r = .val v)
    (h : checkAccess s.plat (effectiveAddress base off) z .atomic = .error c) :
    (.next (readReg d s fun base => readReg r s fun v =>
      orRaise (atomicRMW s (effectiveAddress base off) z (f v)) s k) : Result) = .next (stopped s c) := by
  rw [readReg_of_val hd, readReg_of_val hr, atomicRMW_of_error _ h]
  rfl

theorem compareExchange_of_error (hd : getReg s.regs d = .val base) (hr : getReg s.regs r = .val v)
    (h0 : getReg s.regs .r0 = .val e) (h : checkAccess s.plat (effectiveAddress base off) z .atomic = .error c) :
    compareExchange z d r off s = stopped s c := by
  rw [compareExchange, readReg_of_val hd, readReg_of_val hr, readReg_of_val h0, atomicRMW_of_error _ h]
  rfl

theorem exec_load_of_error (hrow : (i, z) ∈ loadRows d r off) (hbase : getReg s.regs r = .val base)
    (h : checkAccess s.plat (effectiveAddress base off) z .read = .error c) : exec i s = .next (stopped s c) := by
  refine forall_rows (fun i z => checkAccess s.plat (effectiveAddress base off) z .read = .error c →
    exec i s = .next (stopped s c)) hrow ?_ h
  and_intros <;> exact next_load_of_error hbase

theorem exec_storeImmediate_of_error (hrow : (i, z) ∈ storeImmediateRows d off imm) (hd : getReg s.regs d = .val base)
    (h : checkAccess s.plat (effectiveAddress base off) z .write = .error c) : exec i s = .next (stopped s c) := by
  rw [exec_of_mem_storeImmediateRows hrow, storeImmediate_of_error hd h]

theorem exec_storeRegister_of_error (hrow : (i, z) ∈ storeRegisterRows d r off) (hd : getReg s.regs d = .val base)
    (hr : getReg s.regs r = .val v) (h : checkAccess s.plat (effectiveAddress base off) z .write = .error c) :
    exec i s = .next (stopped s c) := by
  rw [exec_of_mem_storeRegisterRows hrow, storeRegister_of_error hd hr h]

theorem exec_atomic_of_error (hrow : (i, z) ∈ atomicRows d r off) (hd : getReg s.regs d = .val base)
    (hr : getReg s.regs r = .val v) (h : checkAccess s.plat (effectiveAddress base off) z .atomic = .error c) :
    exec i s = .next (stopped s c) := by
  refine forall_rows (fun i z => checkAccess s.plat (effectiveAddress base off) z .atomic = .error c →
    exec i s = .next (stopped s c)) hrow ?_ h
  and_intros <;> exact next_atomic_of_error hd hr

theorem exec_compareExchange_of_error (hrow : (i, z) ∈ compareExchangeRows d r off)
    (hd : getReg s.regs d = .val base) (hr : getReg s.regs r = .val v) (h0 : getReg s.regs .r0 = .val e)
    (h : checkAccess s.plat (effectiveAddress base off) z .atomic = .error c) : exec i s = .next (stopped s c) := by
  rw [exec_of_mem_compareExchangeRows hrow, compareExchange_of_error hd hr h0 h]

end

/-- Settles O35: the access check answers `Misaligned`, and every row stops with what the check answers. -/
theorem misalignedAccessFaults : Obligations.MisalignedAccessFaults := by
  unfold Obligations.MisalignedAccessFaults
  refine fun d r off imm s base v e => ⟨?load, ?storeImmediate, ?storeRegister, ?atomic, ?compareExchange⟩
  case load =>
    exact fun i z hrow hr hstrict hmis => exec_load_of_error hrow hr (checkAccess_of_misaligned (.inr hstrict) hmis)
  case storeImmediate =>
    exact fun i z hrow hd hstrict hmis =>
      exec_storeImmediate_of_error hrow hd (checkAccess_of_misaligned (.inr hstrict) hmis)
  case storeRegister =>
    exact fun i z hrow hd hr hstrict hmis =>
      exec_storeRegister_of_error hrow hd hr (checkAccess_of_misaligned (.inr hstrict) hmis)
  case atomic =>
    exact fun i z hrow hd hr hmis => exec_atomic_of_error hrow hd hr (checkAccess_of_misaligned (.inl rfl) hmis)
  case compareExchange =>
    exact fun i z hrow hd hr h0 hmis =>
      exec_compareExchange_of_error hrow hd hr h0 (checkAccess_of_misaligned (.inl rfl) hmis)

/-- Settles O36: past the alignment check the access check answers `MemFault`, and every row stops with that. -/
theorem refusedAccessFaults : Obligations.RefusedAccessFaults := by
  unfold Obligations.RefusedAccessFaults
  refine fun d r off imm s base v e => ⟨?load, ?storeImmediate, ?storeRegister, ?atomic, ?compareExchange⟩
  case load =>
    exact fun i z hrow hr hal hno =>
      exec_load_of_error hrow hr (checkAccess_of_refused (aligned_of_plain (by decide) hal) hno)
  case storeImmediate =>
    exact fun i z hrow hd hal hno =>
      exec_storeImmediate_of_error hrow hd (checkAccess_of_refused (aligned_of_plain (by decide) hal) hno)
  case storeRegister =>
    exact fun i z hrow hd hr hal hno =>
      exec_storeRegister_of_error hrow hd hr (checkAccess_of_refused (aligned_of_plain (by decide) hal) hno)
  case atomic =>
    exact fun i z hrow hd hr hal hno => exec_atomic_of_error hrow hd hr (checkAccess_of_refused (fun _ => hal) hno)
  case compareExchange =>
    exact fun i z hrow hd hr h0 hal hno =>
      exec_compareExchange_of_error hrow hd hr h0 (checkAccess_of_refused (fun _ => hal) hno)

/-! ## Admitted stores and atomics -/

section
variable {z : Size} {d r : RegIdx} {off : Off} {s : State} {base v : Word}

/-- A store of a register leaves its low bytes at the effective address (R284). -/
theorem storeRegister_of_admitted (hm : memoryWf s.mem = true) (hd : getReg s.regs d = .val base)
    (hr : getReg s.regs r = .val v) (hadm : Admitted s (effectiveAddress base off) z .write) :
    ∃ m, storeRegister z d r off s = wroteMem s m ∧
      Stored s.plat.endian s.mem m (effectiveAddress base off) (sizeBytes z) (lowBits z v) := by
  refine ⟨_, ?_, stored_storeValue hm _ _ z _⟩
  rw [storeRegister, readReg_of_val hd, readReg_of_val hr, memWrite_of_admitted _ hadm, orRaise_ok]
  rfl

/-- A simple atomic leaves the result of its operation at the effective address (R311, R313). -/
theorem atomicOnly_of_admitted (f : BitVec (sizeBits z) → BitVec (sizeBits z) → BitVec (sizeBits z))
    (hm : memoryWf s.mem = true) (hd : getReg s.regs d = .val base) (hr : getReg s.regs r = .val v)
    (hadm : Admitted s (effectiveAddress base off) z .atomic) :
    ∃ (old : BitVec (sizeBits z)) (m : Memory),
      BytesAt s.plat.endian s.mem (effectiveAddress base off) (sizeBytes z) old ∧
      Stored s.plat.endian s.mem m (effectiveAddress base off) (sizeBytes z) (f old (lowBits z v)) ∧
      atomicOnly z f d r off s = wroteMem s m := by
  refine ⟨_, _, bytesAt_loadValue _ _ _ _, stored_storeValue hm _ _ z _, ?_⟩
  rw [atomicOnly, readReg_of_val hd, readReg_of_val hr, atomicRMW_of_admitted _ hadm, orRaise_ok]
  rfl

/-- An atomic with FETCH puts the old value into its source register besides (R312, R313). -/
theorem atomicFetch_of_admitted (f : BitVec (sizeBits z) → BitVec (sizeBits z) → BitVec (sizeBits z))
    (hm : memoryWf s.mem = true) (hd : getReg s.regs d = .val base) (hr : getReg s.regs r = .val v)
    (hadm : Admitted s (effectiveAddress base off) z .atomic) :
    ∃ (old : BitVec (sizeBits z)) (m : Memory),
      BytesAt s.plat.endian s.mem (effectiveAddress base off) (sizeBytes z) old ∧
      Stored s.plat.endian s.mem m (effectiveAddress base off) (sizeBytes z) (f old (lowBits z v)) ∧
      atomicFetch z f d r off s = { wroteMem s m with regs := putReg s.regs r (.val (zext64 old)) } := by
  refine ⟨_, _, bytesAt_loadValue _ _ _ _, stored_storeValue hm _ _ z _, ?_⟩
  rw [atomicFetch, readReg_of_val hd, readReg_of_val hr, atomicRMW_of_admitted _ hadm, orRaise_ok]
  rfl

end

/-- The model's sum modulo `2^n` is the library's (R100). -/
theorem addN_eq_add {n : Nat} : (addN : BitVec n → BitVec n → BitVec n) = (· + ·) := by
  funext a b
  exact BitVec.eq_of_toNat_eq (by simp [addN])

/-- All 64 bits are the low bits at the widest width. -/
theorem lowBits_dw (x : Word) : lowBits .dw x = x := BitVec.setWidth_eq x

/-- Settles O29: each row is `storeRegister` at its width. -/
theorem storeRegisterWritesBytes : Obligations.StoreRegisterWritesBytes := by
  unfold Obligations.StoreRegisterWritesBytes
  intro d r off s base v i z hrow hm hd hr hadm
  obtain ⟨m, hnext, hstored⟩ := storeRegister_of_admitted hm hd hr hadm
  exact ⟨m, (exec_of_mem_storeRegisterRows hrow).trans (congrArg _ hnext), hstored⟩

/-- Settles O30: each row is `atomicOnly` of its operation. -/
theorem atomicSimple32Result : Obligations.AtomicSimple32Result := by
  unfold Obligations.AtomicSimple32Result
  intro d r off s base v i f hrow hm hd hr hadm
  have hexec : exec i s = .next (atomicOnly .w f d r off s) := by
    refine forall_rows (fun i f => exec i s = .next (atomicOnly .w f d r off s)) hrow ⟨?add, rfl, rfl, rfl⟩
    exact congrArg (fun f => (.next (atomicOnly .w f d r off s) : Result)) addN_eq_add
  obtain ⟨old, m, hold, hstored, hnext⟩ := atomicOnly_of_admitted (z := .w) f hm hd hr hadm
  exact ⟨old, m, hold, hstored, hexec.trans (congrArg _ hnext)⟩

/-- Settles O31: each row is `atomicFetch` of its operation. -/
theorem atomicFetch32Result : Obligations.AtomicFetch32Result := by
  unfold Obligations.AtomicFetch32Result
  intro d r off s base v i f hrow hm hd hr hadm
  have hexec : exec i s = .next (atomicFetch .w f d r off s) := by
    refine forall_rows (fun i f => exec i s = .next (atomicFetch .w f d r off s)) hrow ⟨?add, rfl, rfl, rfl, rfl⟩
    exact congrArg (fun f => (.next (atomicFetch .w f d r off s) : Result)) addN_eq_add
  obtain ⟨old, m, hold, hstored, hnext⟩ := atomicFetch_of_admitted (z := .w) f hm hd hr hadm
  exact ⟨old, m, hold, hstored, hexec.trans (congrArg _ hnext)⟩

/-- Settles O32: each row is `atomicOnly` of its operation. -/
theorem atomicSimple64Result : Obligations.AtomicSimple64Result := by
  unfold Obligations.AtomicSimple64Result
  intro d r off s base v i f hrow hm hd hr hadm
  have hexec : exec i s = .next (atomicOnly .dw f d r off s) := by
    refine forall_rows (fun i f => exec i s = .next (atomicOnly .dw f d r off s)) hrow ⟨?add, rfl, rfl, rfl⟩
    exact congrArg (fun f => (.next (atomicOnly .dw f d r off s) : Result)) addN_eq_add
  obtain ⟨old, m, hold, hstored, hnext⟩ := atomicOnly_of_admitted (z := .dw) f hm hd hr hadm
  rw [lowBits_dw] at hstored
  exact ⟨old, m, hold, hstored, hexec.trans (congrArg _ hnext)⟩

/-- Settles O33: each row is `atomicFetch` of its operation. -/
theorem atomicFetch64Result : Obligations.AtomicFetch64Result := by
  unfold Obligations.AtomicFetch64Result
  intro d r off s base v i f hrow hm hd hr hadm
  have hexec : exec i s = .next (atomicFetch .dw f d r off s) := by
    refine forall_rows (fun i f => exec i s = .next (atomicFetch .dw f d r off s)) hrow ⟨?add, rfl, rfl, rfl, rfl⟩
    exact congrArg (fun f => (.next (atomicFetch .dw f d r off s) : Result)) addN_eq_add
  obtain ⟨old, m, hold, hstored, hnext⟩ := atomicFetch_of_admitted (z := .dw) f hm hd hr hadm
  rw [lowBits_dw] at hstored
  exact ⟨old, m, hold, hstored, hexec.trans (congrArg _ hnext)⟩

end Sys2Proof.Machine
end

section
/-! What a firing of `ENV` does to memory, fetches that fault, and the effective address. -/
namespace Sys2Proof.Machine

/-! ## `ENV` -/

theorem envTick_mem_of_cons {s : State} {ws : List (Word × Byte)} {rest : List (List (Word × Byte))}
    (h : s.env = ws :: rest) : (envTick s).mem = writeList s.mem (ws.filter fun w => isShared s.plat w.1) := by
  simp [envTick, h]

/-- A byte that is not shared, or that the head entry of the tape does not name, reads as before (R53). -/
theorem readByte_envTick_of_kept {s : State} {a : Word} (hm : memoryWf s.mem = true)
    (h : ∀ ws rest, s.env = ws :: rest → ∀ w ∈ ws, isShared s.plat w.1 = true → w.1 ≠ a) :
    readByte (envTick s).mem a.toNat = readByte s.mem a.toNat := by
  cases henv : s.env with
  | nil => rw [envTick_of_empty s henv]
  | cons ws rest =>
    rw [envTick_mem_of_cons henv]
    refine readByte_writeList_of_not_mem (fun w hw => ?_) hm
    obtain ⟨hmem, hshared⟩ := List.mem_filter.mp hw
    exact h ws rest henv w hmem hshared

/-- A shared byte reads as the last byte the head entry of the tape gives it (R53). -/
theorem readByte_envTick_of_last {s : State} {before later : List (Word × Byte)} {rest : List (List (Word × Byte))}
    {a : Word} {b : Byte} (hm : memoryWf s.mem = true) (henv : s.env = (before ++ (a, b) :: later) :: rest)
    (hlast : ∀ w ∈ later, w.1 ≠ a) (hshared : isShared s.plat a = true) :
    readByte (envTick s).mem a.toNat = b := by
  rw [envTick_mem_of_cons henv, List.filter_append, List.filter_cons_of_pos (by simpa using hshared)]
  exact readByte_writeList_of_last (fun w hw => hlast w (List.mem_filter.mp hw).1) b _ hm

/-- Memory and the tape are all that a firing of `ENV` changes (R418). -/
theorem envTick_with_mem_env (s : State) : { envTick s with mem := s.mem, env := s.env } = s := by
  unfold envTick
  split <;> rfl

/-- Settles O58: the bytes by what the head entry names, every other field by `envTick_with_mem_env`. -/
theorem envChangesOnlySharedBytes : Obligations.EnvChangesOnlySharedBytes := by
  unfold Obligations.EnvChangesOnlySharedBytes
  refine fun s hm => ⟨fun a hno => ?unshared, fun before later rest a b henv hlast hshared => ?last,
    fun ws rest a henv hnone => ?unnamed, envTick_of_empty s, envTick_with_mem_env s, envTick_env s⟩
  case unshared =>
    refine readByte_envTick_of_kept hm fun ws rest _ w _ hshared heq => ?_
    rw [heq, hno] at hshared
    exact Bool.false_ne_true hshared
  case last => exact readByte_envTick_of_last hm henv hlast hshared
  case unnamed =>
    refine readByte_envTick_of_kept hm fun ws' rest' henv' w hw _ => ?_
    obtain ⟨rfl, -⟩ := List.cons.inj (henv.symm.trans henv')
    exact hnone w hw

/-! ## Fetches that fault -/

/-- A fetch outside the program faults (R404). -/
theorem fetch_of_outside {s : State} (h : s.pc < 0 ∨ (s.prog.length : Int) ≤ s.pc) :
    fetch s = .error (.pcOutOfRange s.pc) := by
  unfold fetch
  split
  next => rfl
  next hneg =>
    have hnone : s.prog[s.pc.toNat]? = none := List.getElem?_eq_none (by omega)
    rw [hnone]

/-- A slot that does not decode is an illegal instruction (R403). -/
theorem fetch_of_reject {s : State} {slot : Slot} {why : Reject} (hpc : 0 ≤ s.pc)
    (hslot : s.prog[s.pc.toNat]? = some slot)
    (hdec : decode s.plat.endian s.plat.groups slot s.prog[s.pc.toNat + 1]? = .error why) :
    fetch s = .error (.illegalInstruction s.pc) := by
  simp [fetch, Int.not_lt.mpr hpc, hslot, hdec]

/-- A fetch fault behind the firing of `ENV` stops the run (R401). -/
theorem step_of_fetch_error {s : State} {c : Cause} (hrun : s.st = .running) (h : fetch (envTick s) = .error c) :
    step s = .next (stopped (envTick s) c) := by
  rw [step_of_running hrun, runInstruction, h]
  rfl

theorem step_of_outside {s : State} (hrun : s.st = .running) (h : s.pc < 0 ∨ (s.prog.length : Int) ≤ s.pc) :
    step s = .next (stopped (envTick s) (.pcOutOfRange s.pc)) := by
  have hfetch := fetch_of_outside (s := envTick s) (by simpa using h)
  rw [envTick_pc] at hfetch
  exact step_of_fetch_error hrun hfetch

theorem step_of_reject {s : State} {slot : Slot} {why : Reject} (hrun : s.st = .running) (hpc : 0 ≤ s.pc)
    (hslot : s.prog[s.pc.toNat]? = some slot)
    (hdec : decode s.plat.endian s.plat.groups slot s.prog[s.pc.toNat + 1]? = .error why) :
    step s = .next (stopped (envTick s) (.illegalInstruction s.pc)) := by
  have hfetch : fetch (envTick s) = .error (.illegalInstruction (envTick s).pc) := by
    apply fetch_of_reject (slot := slot) (why := why) <;> simpa
  rw [envTick_pc] at hfetch
  exact step_of_fetch_error hrun hfetch

/-- The opcode byte is byte 0 of the slot under both byte orders (R72). -/
theorem opcode_wordOfSlot (e : Endian) (slot : Slot) : (fieldsOf (wordOfSlot e slot)).opcode = slotByte slot 0 := by
  cases e <;> simp only [wordOfSlot, fieldsOf_wordOf]

/-- Opcode byte `0x00` stands in no row (R86, R406). -/
theorem decode_of_opcode_zero {slot : Slot} (h : slotByte slot 0 = 0) (e : Endian) (gs : List Group)
    (next : Option Slot) : decode e gs slot next = .error .reservedOpcode := by
  have hrow : opcodeTable.lookup (0 : Byte).toNat = none := rfl
  simp only [decode, decodeWord, opcode_wordOfSlot, h, hrow]

/-- Settles O48: the empty program has no slot to fetch from; a jump's target is an integer sum. -/
theorem fetchOutsideProgramFaults : Obligations.FetchOutsideProgramFaults := by
  unfold Obligations.FetchOutsideProgramFaults
  refine ⟨fun s => step_of_outside, fun s hrun hnil => step_of_outside hrun ?_, fun s imm => rfl⟩
  rw [hnil]
  exact lt_or_ge s.pc 0

/-- Settles O49: a rejected slot, and opcode byte `0x00` as one that is. -/
theorem illegalSlotFaults : Obligations.IllegalSlotFaults := by
  unfold Obligations.IllegalSlotFaults
  refine fun s slot hrun hpc hslot => ⟨fun why => step_of_reject hrun hpc hslot, fun hzero => ?_⟩
  exact step_of_reject hrun hpc hslot (decode_of_opcode_zero hzero _ _ _)

/-! ## The effective address -/

/-- Settles O22: both summands are integers read modulo `2^64`. -/
theorem effectiveAddressWraps : Obligations.EffectiveAddressWraps := by
  unfold Obligations.EffectiveAddressWraps
  intro base off
  have hsum : effectiveAddress base off = BitVec.ofInt 64 (base.toNat + off.toInt) := by
    rw [BitVec.ofInt_add, BitVec.ofInt_natCast, BitVec.ofNat_toNat, BitVec.setWidth_eq]
    rfl
  rw [hsum, BitVec.toNat_ofInt]
  exact Int.toNat_of_nonneg (Int.emod_nonneg _ (by decide))

end Sys2Proof.Machine
end

section
/-! Strict decoding: what the steps of the decoder answer, form by form and row by row, is exactly encoded. -/
namespace Sys2Proof

/-! ## The steps of a form -/

section
variable {f : Fields} {next : Option InsnWord} {i : Instr}

theorem unusedZero_eq_ok_iff {ok : Bool} {k : Except Reject Instr} :
    unusedZero ok k = .ok i ↔ ok = true ∧ k = .ok i := by
  cases ok <;> simp [unusedZero]

/-- A register field that is used is the field of a register (R88). -/
theorem useReg_eq_ok_iff {v : BitVec 4} {k : RegIdx → Except Reject Instr} :
    useReg v k = .ok i ↔ ∃ r, v = fieldOfReg r ∧ k r = .ok i := by
  constructor
  · intro h
    unfold useReg at h
    split at h
    next r hr => exact ⟨r, (fieldOfReg_of_regOfField hr).symm, h⟩
    next => cases h
  · rintro ⟨r, rfl, h⟩
    rw [useReg_fieldOfReg, h]

/-- A word whose low 32 bits are zero is the second slot of its `next_imm` (R77). -/
theorem eq_secondWord_of_low_zero {w : InsnWord} (h : w.extractLsb' 0 32 = 0) :
    w = secondWord (w.extractLsb' 32 32) := by
  ext j hj
  have hbit := congrArg (·.getLsbD j) h
  simp [secondWord] at hbit ⊢
  grind

/-- A second slot that is used is there and is well formed (R77, R85 step 5). -/
theorem useNext_eq_ok_iff {k : Imm → Except Reject Instr} :
    useNext next k = .ok i ↔ ∃ n, next = some (secondWord n) ∧ k n = .ok i := by
  constructor
  · intro h
    unfold useNext at h
    split at h
    next => cases h
    next w =>
      split at h
      next hlow => exact ⟨_, congrArg some (eq_secondWord_of_low_zero (beq_iff_eq.mp hlow)), h⟩
      next => cases h
  · rintro ⟨n, rfl, h⟩
    rw [useNext_secondWord, h]

theorem mem_of_lookup {rows : List (Nat × Arm)} {v : Nat} {arm : Arm} (h : rows.lookup v = some arm) :
    (v, arm) ∈ rows := by
  obtain ⟨before, after, rfl, -⟩ := List.lookup_eq_some_iff.mp h
  simp

/-- What a selector field leads to is one of its rows (R85 step 2). -/
theorem mem_of_select_eq_ok {v : Nat} {rows : List (Nat × Arm)} (h : select v rows f next = .ok i) :
    ∃ arm, (v, arm) ∈ rows ∧ arm f next = .ok i := by
  unfold select at h
  split at h
  next arm hrow => exact ⟨arm, mem_of_lookup hrow, h⟩
  next => cases h

end

/-! ## Exact encodings -/

/-- What the encoder says of an instruction: whether it is one, the fields of its first slot, its `next_imm`. -/
def layout (i : Instr) : Bool × Fields × Option Imm := (i.wf, encodeFields i, encodeNext i)

/-- The fields of a slot and the word after it are the encoding of an instruction (R84, R85, R87). -/
def ExactlyEncoded (f : Fields) (next : Option InsnWord) (i : Instr) : Prop :=
  i.wf = true ∧ encodeFields i = f ∧ ∀ n, encodeNext i = some n → next = some (secondWord n)

theorem exactlyEncoded_of_basic {f : Fields} {next : Option InsnWord} {i : Instr} (h : layout i = (true, f, none)) :
    ExactlyEncoded f next i := by
  obtain ⟨hwf, hf, hn⟩ : i.wf = true ∧ encodeFields i = f ∧ encodeNext i = none := by simpa [layout] using h
  exact ⟨hwf, hf, by simp [hn]⟩

theorem exactlyEncoded_of_wide {f : Fields} {i : Instr} {n : Imm} (h : layout i = (true, f, some n)) :
    ExactlyEncoded f (some (secondWord n)) i := by
  obtain ⟨hwf, hf, hn⟩ : i.wf = true ∧ encodeFields i = f ∧ encodeNext i = some n := by simpa [layout] using h
  exact ⟨hwf, hf, by simp [hn]⟩

/-! ## The operand forms -/

/-- Under the opcode byte `op` and the value `v` of the selector field `sel`, an arm answers only what is exactly
encoded. -/
def Strict (op : Nat) (sel : Fields → Nat) (v : Nat) (arm : Arm) : Prop :=
  ∀ f next i, f.opcode.toNat = op → sel f = v → arm f next = .ok i → ExactlyEncoded f next i

section
variable {op v : Nat} {sel : Fields → Nat}

theorem strict_formK {mk : RegIdx → Imm → Instr}
    (h : ∀ d imm, layout (mk d imm) = (true, encK (.ofNat 8 op) (.ofNat 16 v) d imm, none)) :
    Strict op (·.off.toNat) v (formK mk) := by
  rintro ⟨o, dst, src, off, imm⟩ next i rfl rfl hi
  simp only [formK, unusedZero_eq_ok_iff, useReg_eq_ok_iff, beq_iff_eq, Except.ok.injEq] at hi
  obtain ⟨rfl, d, rfl, rfl⟩ := hi
  exact exactlyEncoded_of_basic (by simpa [encK] using h d imm)

theorem strict_formX {mk : RegIdx → RegIdx → Instr}
    (h : ∀ d s, layout (mk d s) = (true, encX (.ofNat 8 op) (.ofNat 16 v) d s, none)) :
    Strict op (·.off.toNat) v (formX mk) := by
  rintro ⟨o, dst, src, off, imm⟩ next i rfl rfl hi
  simp only [formX, unusedZero_eq_ok_iff, useReg_eq_ok_iff, beq_iff_eq, Except.ok.injEq] at hi
  obtain ⟨rfl, d, rfl, s, rfl, rfl⟩ := hi
  exact exactlyEncoded_of_basic (by simpa [encX] using h d s)

theorem strict_formNeg {mk : RegIdx → Instr}
    (h : ∀ d, layout (mk d) = (true, encK (.ofNat 8 op) 0 d 0, none)) :
    Strict op sel v (formNeg mk) := by
  rintro ⟨o, dst, src, off, imm⟩ next i rfl - hi
  simp only [formNeg, unusedZero_eq_ok_iff, useReg_eq_ok_iff, Bool.and_eq_true, beq_iff_eq, Except.ok.injEq] at hi
  obtain ⟨⟨⟨rfl, rfl⟩, rfl⟩, d, rfl, rfl⟩ := hi
  exact exactlyEncoded_of_basic (by simpa [encK] using h d)

theorem strict_formEnd {mk : RegIdx → Instr}
    (h : ∀ d, layout (mk d) = (true, encK (.ofNat 8 op) 0 d (.ofNat 32 v), none)) :
    Strict op (·.imm.toNat) v (formEnd mk) := by
  rintro ⟨o, dst, src, off, imm⟩ next i rfl rfl hi
  simp only [formEnd, unusedZero_eq_ok_iff, useReg_eq_ok_iff, Bool.and_eq_true, beq_iff_eq, Except.ok.injEq] at hi
  obtain ⟨⟨rfl, rfl⟩, d, rfl, rfl⟩ := hi
  exact exactlyEncoded_of_basic (by simpa [encK] using h d)

theorem strict_formJa {mk : Off → Instr}
    (h : ∀ off, layout (mk off) = (true, encNone (.ofNat 8 op) 0 off 0, none)) :
    Strict op sel v (formJa mk) := by
  rintro ⟨o, dst, src, off, imm⟩ next i rfl - hi
  simp only [formJa, unusedZero_eq_ok_iff, Bool.and_eq_true, beq_iff_eq, Except.ok.injEq] at hi
  obtain ⟨⟨⟨rfl, rfl⟩, rfl⟩, rfl⟩ := hi
  exact exactlyEncoded_of_basic (by simpa [encNone] using h off)

theorem strict_formJa32 {mk : Imm → Instr}
    (h : ∀ imm, layout (mk imm) = (true, encNone (.ofNat 8 op) 0 0 imm, none)) :
    Strict op sel v (formJa32 mk) := by
  rintro ⟨o, dst, src, off, imm⟩ next i rfl - hi
  simp only [formJa32, unusedZero_eq_ok_iff, Bool.and_eq_true, beq_iff_eq, Except.ok.injEq] at hi
  obtain ⟨⟨⟨rfl, rfl⟩, rfl⟩, rfl⟩ := hi
  exact exactlyEncoded_of_basic (by simpa [encNone] using h imm)

theorem strict_formCall {mk : Imm → Instr}
    (h : ∀ imm, layout (mk imm) = (true, encNone (.ofNat 8 op) (.ofNat 4 v) 0 imm, none)) :
    Strict op (·.src.toNat) v (formCall mk) := by
  rintro ⟨o, dst, src, off, imm⟩ next i rfl rfl hi
  simp only [formCall, unusedZero_eq_ok_iff, Bool.and_eq_true, beq_iff_eq, Except.ok.injEq] at hi
  obtain ⟨⟨rfl, rfl⟩, rfl⟩ := hi
  exact exactlyEncoded_of_basic (by simpa [encNone] using h imm)

theorem strict_formExit {j : Instr}
    (h : layout j = (true, encNone (.ofNat 8 op) 0 0 0, none)) :
    Strict op sel v (formExit j) := by
  rintro ⟨o, dst, src, off, imm⟩ next i rfl - hi
  simp only [formExit, unusedZero_eq_ok_iff, Bool.and_eq_true, beq_iff_eq, Except.ok.injEq] at hi
  obtain ⟨⟨⟨⟨rfl, rfl⟩, rfl⟩, rfl⟩, rfl⟩ := hi
  exact exactlyEncoded_of_basic (by simpa [encNone] using h)

theorem strict_formJumpK {mk : RegIdx → Off → Imm → Instr}
    (h : ∀ d off imm, layout (mk d off imm) = (true, encDst (.ofNat 8 op) 0 d off imm, none)) :
    Strict op sel v (formJumpK mk) := by
  rintro ⟨o, dst, src, off, imm⟩ next i rfl - hi
  simp only [formJumpK, unusedZero_eq_ok_iff, useReg_eq_ok_iff, beq_iff_eq, Except.ok.injEq] at hi
  obtain ⟨rfl, d, rfl, rfl⟩ := hi
  exact exactlyEncoded_of_basic (by simpa [encDst] using h d off imm)

theorem strict_formOff {mk : RegIdx → RegIdx → Off → Instr}
    (h : ∀ d s off, layout (mk d s off) = (true, encBoth (.ofNat 8 op) d s off 0, none)) :
    Strict op sel v (formOff mk) := by
  rintro ⟨o, dst, src, off, imm⟩ next i rfl - hi
  simp only [formOff, unusedZero_eq_ok_iff, useReg_eq_ok_iff, beq_iff_eq, Except.ok.injEq] at hi
  obtain ⟨rfl, d, rfl, s, rfl, rfl⟩ := hi
  exact exactlyEncoded_of_basic (by simpa [encBoth] using h d s off)

theorem strict_formAtomic {mk : RegIdx → RegIdx → Off → Instr}
    (h : ∀ d s off, layout (mk d s off) = (true, encBoth (.ofNat 8 op) d s off (.ofNat 32 v), none)) :
    Strict op (·.imm.toNat) v (formAtomic mk) := by
  rintro ⟨o, dst, src, off, imm⟩ next i rfl rfl hi
  simp only [formAtomic, useReg_eq_ok_iff, Except.ok.injEq] at hi
  obtain ⟨d, rfl, s, rfl, rfl⟩ := hi
  exact exactlyEncoded_of_basic (by simpa [encBoth] using h d s off)

theorem strict_formWide {mk : RegIdx → Imm → Imm → Instr}
    (h : ∀ d imm n, layout (mk d imm n) = (true, encDst (.ofNat 8 op) (.ofNat 4 v) d 0 imm, some n)) :
    Strict op (·.src.toNat) v (formWide mk) := by
  rintro ⟨o, dst, src, off, imm⟩ next i rfl rfl hi
  simp only [formWide, unusedZero_eq_ok_iff, useReg_eq_ok_iff, useNext_eq_ok_iff, beq_iff_eq, Except.ok.injEq] at hi
  obtain ⟨rfl, d, rfl, n, rfl, rfl⟩ := hi
  exact exactlyEncoded_of_wide (by simpa [encDst] using h d imm n)

theorem strict_formWideNoNext {mk : RegIdx → Imm → Instr}
    (h : ∀ d imm, layout (mk d imm) = (true, encDst (.ofNat 8 op) (.ofNat 4 v) d 0 imm, some 0)) :
    Strict op (·.src.toNat) v (formWideNoNext mk) := by
  rintro ⟨o, dst, src, off, imm⟩ next i rfl rfl hi
  simp only [formWideNoNext, unusedZero_eq_ok_iff, useReg_eq_ok_iff, useNext_eq_ok_iff, beq_iff_eq] at hi
  obtain ⟨rfl, d, rfl, n, rfl, hi⟩ := hi
  split at hi
  next hn =>
    cases hn
    cases hi
    exact exactlyEncoded_of_wide (by simpa [encDst] using h d imm)
  next => cases hi

/-- LD ABS uses the fields that JA32 uses. -/
theorem strict_formAbs {mk : Imm → Instr}
    (h : ∀ imm, layout (mk imm) = (true, encNone (.ofNat 8 op) 0 0 imm, none)) :
    Strict op sel v (formAbs mk) :=
  strict_formJa32 h

theorem strict_formInd {mk : RegIdx → Imm → Instr}
    (h : ∀ s imm, layout (mk s imm) = (true, encSrc (.ofNat 8 op) s imm, none)) :
    Strict op sel v (formInd mk) := by
  rintro ⟨o, dst, src, off, imm⟩ next i rfl - hi
  simp only [formInd, unusedZero_eq_ok_iff, useReg_eq_ok_iff, Bool.and_eq_true, beq_iff_eq, Except.ok.injEq] at hi
  obtain ⟨⟨rfl, rfl⟩, s, rfl, rfl⟩ := hi
  exact exactlyEncoded_of_basic (by simpa [encSrc] using h s imm)

/-! ## Rows chosen by a selector -/

/-- Every row of a list is strict under its own value of the selector field `key`. -/
def StrictRows (op : Nat) (key : Fields → Nat) (rows : List (Nat × Arm)) : Prop :=
  rows.Forall fun row => Strict op key row.1 row.2

theorem strictRows_nil {key : Fields → Nat} : StrictRows op key [] := trivial

theorem strictRows_cons {key : Fields → Nat} {arm : Arm} {rows : List (Nat × Arm)} (hrow : Strict op key v arm)
    (hrows : StrictRows op key rows) : StrictRows op key ((v, arm) :: rows) :=
  (List.forall_cons _ _ _).mpr ⟨hrow, hrows⟩

theorem strict_select {key : Fields → Nat} {rows : List (Nat × Arm)} (h : StrictRows op key rows) :
    Strict op sel v fun f next => select (key f) rows f next := by
  intro f next i hop _ hi
  obtain ⟨arm, hrow, harm⟩ := mem_of_select_eq_ok hi
  exact List.forall_iff_forall_mem.mp h _ hrow f next i hop rfl harm

theorem strict_byOff {rows : List (Nat × Arm)} (h : StrictRows op (·.off.toNat) rows) : Strict op sel v (byOff rows) :=
  strict_select h

theorem strict_byImm {rows : List (Nat × Arm)} (h : StrictRows op (·.imm.toNat) rows) : Strict op sel v (byImm rows) :=
  strict_select h

theorem strict_bySrc {rows : List (Nat × Arm)} (h : StrictRows op (·.src.toNat) rows) : Strict op sel v (bySrc rows) :=
  strict_select h

end

/-! ## The opcode tables -/

/-- A row of an opcode table is strict; its opcode byte is all that is known of the slot. -/
def StrictEntry (row : Nat × Arm) : Prop := Strict row.1 (·.opcode.toNat) row.1 row.2

/-- Every row is strict, table by table: the rules name the forms of the table, and what each form asks of its
constructor is what the encoder says of it. -/
theorem opcodeTables_strict : opcodeTables.Forall fun table => table.Forall StrictEntry := by
  refine ⟨?alu, ?alu64, ?byteSwap, ?jmp, ?jmp32, ?loadStore, ?atomic, ?wide, ?packet⟩
  case' alu | alu64 =>
    and_intros
    all_goals apply_rules [strict_byOff, strictRows_nil, strictRows_cons, strict_formK, strict_formX, strict_formNeg]
  case' byteSwap =>
    and_intros
    all_goals apply_rules [strict_byImm, strictRows_nil, strictRows_cons, strict_formEnd]
  case' jmp =>
    and_intros
    all_goals apply_rules [strict_bySrc, strictRows_nil, strictRows_cons, strict_formJa, strict_formJumpK,
      strict_formOff, strict_formCall, strict_formExit]
  case' jmp32 =>
    and_intros
    all_goals apply_rules [strict_formJa32, strict_formJumpK, strict_formOff]
  case' loadStore =>
    and_intros
    all_goals apply_rules [strict_formJumpK, strict_formOff]
  case' atomic =>
    and_intros
    all_goals apply_rules [strict_byImm, strictRows_nil, strictRows_cons, strict_formAtomic]
  case' wide =>
    apply strict_bySrc
    apply_rules [strictRows_nil, strictRows_cons, strict_formWide, strict_formWideNoNext]
  case' packet =>
    and_intros
    all_goals apply_rules [strict_formAbs, strict_formInd]
  all_goals intros; rfl

theorem strictEntry_of_mem {row : Nat × Arm} (h : row ∈ opcodeTable) : StrictEntry row := by
  rw [opcodeTable_eq_flatten] at h
  obtain ⟨table, htable, hrow⟩ := List.mem_flatten.mp h
  exact List.forall_iff_forall_mem.mp (List.forall_iff_forall_mem.mp opcodeTables_strict table htable) row hrow

theorem exactlyEncoded_of_decodeWord {w : InsnWord} {next : Option InsnWord} {i : Instr}
    (h : decodeWord w next = .ok i) : ExactlyEncoded (fieldsOf w) next i := by
  unfold decodeWord at h
  split at h
  next arm hrow => exact strictEntry_of_mem (mem_of_lookup hrow) _ next i rfl rfl h
  next => cases h

/-- Settles O43: the fields and the second word are exactly encoded, and the bit layouts are inverse to each other. -/
theorem decodeIsStrict : Obligations.DecodeIsStrict := by
  unfold Obligations.DecodeIsStrict
  intro e gs slot next i hdec
  obtain ⟨hword, hsup⟩ := decode_eq_ok_iff.mp hdec
  obtain ⟨hwf, hfields, hnext⟩ := exactlyEncoded_of_decodeWord hword
  have hfirst : slotOfWord e (wordOf (encodeFields i)) = slot := by
    rw [hfields, wordOf_fieldsOf, slotOfWord_wordOfSlot]
  refine ⟨hwf, hsup, ?_⟩
  cases hn : encodeNext i with
  | none => exact .inl (by simp [encode, encodeWords, hn, hfirst])
  | some n =>
    obtain ⟨second, rfl, hsecond⟩ := Option.map_eq_some_iff.mp (hnext n hn)
    have hslot : slotOfWord e (secondWord n) = second := by rw [← hsecond, slotOfWord_wordOfSlot]
    exact .inr ⟨second, rfl, by simp [encode, encodeWords, hn, hfirst, hslot]⟩

/-! ## Length -/

/-- The length rule for every instruction (R86). -/
theorem encodedLength (i : Instr) : Laws.EncodedLength.Statement i := by
  cases i <;> rfl

/-- Settles O44: the opcode byte of the slot is that of the instruction's encoding, which gives the length. -/
theorem decodeLengthByOpcode : Obligations.DecodeLengthByOpcode := by
  unfold Obligations.DecodeLengthByOpcode
  refine fun e gs slot next => ⟨fun i hdec => ?_, fun hzero => Machine.decode_of_opcode_zero hzero e gs next⟩
  obtain ⟨hword, -⟩ := decode_eq_ok_iff.mp hdec
  obtain ⟨-, hfields, -⟩ := exactlyEncoded_of_decodeWord hword
  have hop : (encodeFields i).opcode = slotByte slot 0 := by rw [hfields, Machine.opcode_wordOfSlot]
  calc (encode e i).length = (encodeWords i).length := List.length_map _
    _ = if (encodeFields i).opcode = 0x18 then 2 else 1 := encodedLength i
    _ = if slotByte slot 0 = 0x18 then 2 else 1 := by rw [hop]

/-- Settles O45: the decoder is evaluated on each word. -/
theorem decodeOfWrittenWords : Obligations.DecodeOfWrittenWords := by
  unfold Obligations.DecodeOfWrittenWords
  and_intros <;> rfl

end Sys2Proof

namespace Sys2Proof.Machine

/-! ## The 64-bit immediate -/

/-- `next_imm ++ imm` by its halves (R90). -/
theorem wideImm_eq (imm nextImm : Imm) : wideImm imm nextImm = (nextImm.setWidth 64 <<< 32) ||| imm.setWidth 64 := by
  rw [wideImm, BitVec.append_def, BitVec.shiftLeftZeroExtend_eq, BitVec.setWidth'_eq]

/-- Settles O38: the value is `wideImm`, which `putWide` writes. -/
theorem loadImmediate64Result : Obligations.LoadImmediate64Result := by
  unfold Obligations.LoadImmediate64Result
  intro d imm nextImm s
  rw [← wideImm_eq]
  rfl

end Sys2Proof.Machine
end

section
/-! Class ALU and ALU64: the model's arithmetic in the library's terms, one rule per operand form, and the next states
of the instructions. -/
namespace Sys2Proof.Machine

/-! ## The arithmetic laws in the library's terms

The model computes in the integers and narrows at the end (R100, R102, R103); the claims name the library's
operations. -/

section
variable {n : Nat} (a b : BitVec n)

theorem ofInt_natCast_toNat : BitVec.ofInt n (a.toNat : Int) = a := by
  rw [BitVec.ofInt_natCast, BitVec.ofNat_toNat, BitVec.setWidth_eq]

theorem subN_eq_sub : subN a b = a - b := by
  rw [subN, Int.sub_eq_add_neg, BitVec.ofInt_add, BitVec.ofInt_neg, ofInt_natCast_toNat, ofInt_natCast_toNat,
    BitVec.add_neg_eq_sub]

theorem mulN_eq_mul : mulN a b = a * b := BitVec.eq_of_toNat_eq (BitVec.toNat_ofNat _ _)

theorem negN_eq_neg : negN a = -a := by
  rw [negN, Int.zero_sub, BitVec.ofInt_neg, ofInt_natCast_toNat]

theorem toNat_eq_zero_iff : b.toNat = 0 ↔ b = 0 := BitVec.toNat_inj (y := 0)

theorem divN_eq_ite : divN a b = if b = 0 then 0 else a / b := by
  simp only [divN, toNat_eq_zero_iff, BitVec.udiv_def]

/-- The dividend less the divisor times the floor quotient is the library's remainder (R103). -/
theorem modN_eq_ite : modN a b = if b = 0 then a else a % b := by
  simp only [modN, toNat_eq_zero_iff, BitVec.umod_def, Nat.mod_eq_sub]

/-- The integer quotient may be `2^(n-1)`, which no `n` bits hold; both sides narrow it alike (D28). -/
theorem ofInt_tdiv_toInt : BitVec.ofInt n (a.toInt.tdiv b.toInt) = BitVec.sdiv a b := by
  apply BitVec.eq_of_toInt_eq
  rw [BitVec.toInt_ofInt, BitVec.toInt_sdiv]

theorem sdivN_eq_ite : sdivN a b = if b = 0 then 0 else BitVec.sdiv a b := by
  simp only [sdivN, toNat_eq_zero_iff, ofInt_tdiv_toInt]

/-- The truncated remainder is a signed reading already, so nothing is lost when it is narrowed. -/
theorem ofInt_tmod_toInt : BitVec.ofInt n (a.toInt.tmod b.toInt) = BitVec.srem a b := by
  rw [← BitVec.toInt_srem, BitVec.ofInt_toInt]

/-- The dividend less the divisor times the truncated quotient is the library's remainder (R103). -/
theorem smodN_eq_ite : smodN a b = if b = 0 then a else BitVec.srem a b := by
  simp only [smodN, toNat_eq_zero_iff, ← Int.tmod_def, ofInt_tmod_toInt]

/-- A mask of the width less one is a remainder, as the width is a power of two (R102, R143). -/
theorem shiftCount_eq_mod {k : Nat} (hn : n = 2 ^ k) : shiftCount b = b.toNat % n := by
  subst hn
  have hmask : 2 ^ k - 1 < 2 ^ 2 ^ k := (Nat.sub_le _ _).trans_lt Nat.lt_two_pow_self
  rw [shiftCount, BitVec.toNat_and, BitVec.toNat_ofNat, Nat.mod_eq_of_lt hmask, Nat.and_two_pow_sub_one_eq_mod]

theorem lshN_eq_shiftLeft {k : Nat} (hn : n = 2 ^ k) : lshN a b = a <<< (b.toNat % n) := by
  rw [← shiftCount_eq_mod b hn]
  exact BitVec.eq_of_toNat_eq (by rw [lshN, BitVec.toNat_ofNat, BitVec.toNat_shiftLeft, Nat.shiftLeft_eq])

theorem rshN_eq_ushiftRight {k : Nat} (hn : n = 2 ^ k) : rshN a b = a >>> (b.toNat % n) := by
  rw [← shiftCount_eq_mod b hn, rshN, ← Nat.shiftRight_eq_div_pow, ← BitVec.toNat_ushiftRight, BitVec.ofNat_toNat,
    BitVec.setWidth_eq]

theorem arshN_eq_sshiftRight {k : Nat} (hn : n = 2 ^ k) : arshN a b = BitVec.sshiftRight a (b.toNat % n) := by
  rw [← shiftCount_eq_mod b hn, arshN, BitVec.sshiftRight, Int.shiftRight_eq_div_pow]

end

/-! ## The operand forms -/

/-- A meaning that begins with a read of a written register goes on with its value (R24). -/
theorem next_readReg_of_val {i : RegIdx} {s : State} {v : Word} {k : Word → State} (h : getReg s.regs i = .val v) :
    (.next (readReg i s k) : Result) = .next (k v) :=
  congrArg _ (readReg_of_val h)

section
variable {d r : RegIdx} {imm : Imm} {s : State} {x y : Word}

theorem next_alu32K {f : BitVec 32 → BitVec 32 → BitVec 32} {v : BitVec 32} (hx : getReg s.regs d = .val x)
    (hv : f (x.setWidth 32) imm = v) : (.next (alu32K f d imm s) : Result) = .next (wrote s d (v.setWidth 64)) := by
  subst hv
  exact next_readReg_of_val hx

theorem next_alu32X {f : BitVec 32 → BitVec 32 → BitVec 32} {v : BitVec 32} (hx : getReg s.regs d = .val x)
    (hy : getReg s.regs r = .val y) (hv : f (x.setWidth 32) (y.setWidth 32) = v) :
    (.next (alu32X f d r s) : Result) = .next (wrote s d (v.setWidth 64)) := by
  subst hv
  exact (next_readReg_of_val hx).trans (next_readReg_of_val hy)

theorem next_alu32D {f : BitVec 32 → BitVec 32} {v : BitVec 32} (hx : getReg s.regs d = .val x)
    (hv : f (x.setWidth 32) = v) : (.next (alu32D f d s) : Result) = .next (wrote s d (v.setWidth 64)) := by
  subst hv
  exact next_readReg_of_val hx

theorem next_alu64K {f : Word → Word → Word} {v : Word} (hx : getReg s.regs d = .val x)
    (hv : f x (imm.signExtend 64) = v) : (.next (alu64K f d imm s) : Result) = .next (wrote s d v) := by
  subst hv
  exact next_readReg_of_val hx

theorem next_alu64X {f : Word → Word → Word} {v : Word} (hx : getReg s.regs d = .val x)
    (hy : getReg s.regs r = .val y) (hv : f x y = v) :
    (.next (alu64X f d r s) : Result) = .next (wrote s d v) := by
  subst hv
  exact (next_readReg_of_val hx).trans (next_readReg_of_val hy)

theorem next_alu64D {f : Word → Word} {v : Word} (hx : getReg s.regs d = .val x) (hv : f x = v) :
    (.next (alu64D f d s) : Result) = .next (wrote s d v) := by
  subst hv
  exact next_readReg_of_val hx

end

/-! ## Class ALU -/

/-- Settles O1: each instruction by the lemma of its operand form and of its law. -/
theorem alu32AddSubMulNegResult : Obligations.Alu32AddSubMulNegResult := by
  unfold Obligations.Alu32AddSubMulNegResult
  refine ⟨fun d imm s x hx => ⟨?addK, ?subK, ?mulK⟩, fun d r s x y hx hy => ⟨?addX, ?subX, ?mulX⟩,
    fun d s x hx => ?neg⟩
  case addK => exact next_alu32K hx (congrFun₂ addN_eq_add _ _)
  case subK => exact next_alu32K hx (subN_eq_sub _ _)
  case mulK => exact next_alu32K hx (mulN_eq_mul _ _)
  case addX => exact next_alu32X hx hy (congrFun₂ addN_eq_add _ _)
  case subX => exact next_alu32X hx hy (subN_eq_sub _ _)
  case mulX => exact next_alu32X hx hy (mulN_eq_mul _ _)
  case neg => exact next_alu32D hx (negN_eq_neg _)

/-- Settles O2: the bitwise operations are the library's by definition; a move does not read its destination. -/
theorem alu32BitwiseMoveResult : Obligations.Alu32BitwiseMoveResult := by
  unfold Obligations.Alu32BitwiseMoveResult
  refine ⟨fun d imm s x hx => ⟨?orK, ?andK, ?xorK⟩, fun d r s x y hx hy => ⟨?orX, ?andX, ?xorX⟩,
    fun d imm s => ?movK, fun d r s y hy => ⟨?movX, ?movsx8, ?movsx16⟩⟩
  case orK | andK | xorK => exact next_alu32K hx rfl
  case orX | andX | xorX => exact next_alu32X hx hy rfl
  case movK => exact congrArg Host.Outcome.next (advance_setReg s d (zext64 imm))
  case movX | movsx8 | movsx16 => exact next_readReg_of_val hy

/-- Settles O3: each instruction by the lemma of its operand form and of its law, the zero divisor being a case of the
law. -/
theorem alu32UnsignedDivModResult : Obligations.Alu32UnsignedDivModResult := by
  unfold Obligations.Alu32UnsignedDivModResult
  refine ⟨fun d imm s x hx => ⟨?divK, ?modK⟩, fun d r s x y hx hy => ⟨?divX, ?modX⟩⟩
  case divK => exact next_alu32K hx (divN_eq_ite _ _)
  case modK => exact next_alu32K hx (modN_eq_ite _ _)
  case divX => exact next_alu32X hx hy (divN_eq_ite _ _)
  case modX => exact next_alu32X hx hy (modN_eq_ite _ _)

/-- Settles O4: as O3, with the signed laws. -/
theorem alu32SignedDivModResult : Obligations.Alu32SignedDivModResult := by
  unfold Obligations.Alu32SignedDivModResult
  refine ⟨fun d imm s x hx => ⟨?sdivK, ?smodK⟩, fun d r s x y hx hy => ⟨?sdivX, ?smodX⟩⟩
  case sdivK => exact next_alu32K hx (sdivN_eq_ite _ _)
  case smodK => exact next_alu32K hx (smodN_eq_ite _ _)
  case sdivX => exact next_alu32X hx hy (sdivN_eq_ite _ _)
  case smodX => exact next_alu32X hx hy (smodN_eq_ite _ _)

/-- Settles O5: each instruction by the lemma of its operand form and of its law, where `32 = 2 ^ 5`. -/
theorem alu32ShiftResult : Obligations.Alu32ShiftResult := by
  unfold Obligations.Alu32ShiftResult
  have width : 32 = 2 ^ 5 := rfl
  refine ⟨fun d imm s x hx => ⟨?lshK, ?rshK, ?arshK⟩, fun d r s x y hx hy => ⟨?lshX, ?rshX, ?arshX⟩⟩
  case lshK => exact next_alu32K hx (lshN_eq_shiftLeft _ _ width)
  case rshK => exact next_alu32K hx (rshN_eq_ushiftRight _ _ width)
  case arshK => exact next_alu32K hx (arshN_eq_sshiftRight _ _ width)
  case lshX => exact next_alu32X hx hy (lshN_eq_shiftLeft _ _ width)
  case rshX => exact next_alu32X hx hy (rshN_eq_ushiftRight _ _ width)
  case arshX => exact next_alu32X hx hy (arshN_eq_sshiftRight _ _ width)

/-! ## Class ALU64 -/

/-- Settles O6: each instruction by the lemma of its operand form and of its law. -/
theorem alu64AddSubMulNegResult : Obligations.Alu64AddSubMulNegResult := by
  unfold Obligations.Alu64AddSubMulNegResult
  refine ⟨fun d imm s x hx => ⟨?addK, ?subK, ?mulK⟩, fun d r s x y hx hy => ⟨?addX, ?subX, ?mulX⟩,
    fun d s x hx => ?neg⟩
  case addK => exact next_alu64K hx (congrFun₂ addN_eq_add _ _)
  case subK => exact next_alu64K hx (subN_eq_sub _ _)
  case mulK => exact next_alu64K hx (mulN_eq_mul _ _)
  case addX => exact next_alu64X hx hy (congrFun₂ addN_eq_add _ _)
  case subX => exact next_alu64X hx hy (subN_eq_sub _ _)
  case mulX => exact next_alu64X hx hy (mulN_eq_mul _ _)
  case neg => exact next_alu64D hx (negN_eq_neg _)

/-- Settles O8: each instruction by the lemma of its operand form and of its law, the zero divisor being a case of the
law. -/
theorem alu64UnsignedDivModResult : Obligations.Alu64UnsignedDivModResult := by
  unfold Obligations.Alu64UnsignedDivModResult
  refine ⟨fun d imm s x hx => ⟨?divK, ?modK⟩, fun d r s x y hx hy => ⟨?divX, ?modX⟩⟩
  case divK => exact next_alu64K hx (divN_eq_ite _ _)
  case modK => exact next_alu64K hx (modN_eq_ite _ _)
  case divX => exact next_alu64X hx hy (divN_eq_ite _ _)
  case modX => exact next_alu64X hx hy (modN_eq_ite _ _)

/-- Settles O9: as O8, with the signed laws. -/
theorem alu64SignedDivModResult : Obligations.Alu64SignedDivModResult := by
  unfold Obligations.Alu64SignedDivModResult
  refine ⟨fun d imm s x hx => ⟨?sdivK, ?smodK⟩, fun d r s x y hx hy => ⟨?sdivX, ?smodX⟩⟩
  case sdivK => exact next_alu64K hx (sdivN_eq_ite _ _)
  case smodK => exact next_alu64K hx (smodN_eq_ite _ _)
  case sdivX => exact next_alu64X hx hy (sdivN_eq_ite _ _)
  case smodX => exact next_alu64X hx hy (smodN_eq_ite _ _)

end Sys2Proof.Machine
end

section
/-! Class ALU64: the bitwise operations and moves, the masked shifts, and the zero divisor, which leaves the destination
or clears it. -/
namespace Sys2Proof.Machine

/-! ## The zero divisor (R142) -/

section
variable {n : Nat} (a : BitVec n)

theorem divN_zero : divN a 0 = 0 := by rw [divN_eq_ite, if_pos rfl]

theorem modN_zero : modN a 0 = a := by rw [modN_eq_ite, if_pos rfl]

theorem sdivN_zero : sdivN a 0 = 0 := by rw [sdivN_eq_ite, if_pos rfl]

theorem smodN_zero : smodN a 0 = a := by rw [smodN_eq_ite, if_pos rfl]

end

/-! ## Writing back what was read -/

theorem putReg_of_getReg {x : RegFile} {i : RegIdx} {r : Reg} (h : getReg x i = r) : putReg x i r = x := by
  subst h
  cases i <;> rfl

/-- An instruction that writes to its destination the value found there only moves `pc` on. -/
theorem wrote_of_getReg {s : State} {d : RegIdx} {x : Word} (h : getReg s.regs d = .val x) :
    wrote s d x = wentTo s (s.pc + 1) := by
  rw [wrote, putReg_of_getReg h, wentTo]

/-! ## The low bits of an operand (R143) -/

theorem toNat_extractLsb'_zero {n : Nat} (k : Nat) (b : BitVec n) :
    (b.extractLsb' 0 k).toNat = b.toNat % 2 ^ k := by
  rw [BitVec.extractLsb'_toNat, Nat.shiftRight_zero]

/-- Sign extension adds bits above the width and keeps those below it. -/
theorem extractLsb'_zero_signExtend {k n m : Nat} (b : BitVec n) (hn : k ≤ n) (hm : k ≤ m) :
    (b.signExtend m).extractLsb' 0 k = b.extractLsb' 0 k := by
  ext i hi
  have hin : i < n := hi.trans_le hn
  have him : i < m := hi.trans_le hm
  simp [BitVec.getElem_signExtend, hin, him]

/-- Bits 5:0 of a register are its number modulo 64. -/
theorem toNat_lowSix (y : Word) : (y.extractLsb' 0 6).toNat = y.toNat % 64 :=
  toNat_extractLsb'_zero 6 y

/-- Bits 5:0 of `imm` are the number modulo 64 of the operand it is extended to (R141). -/
theorem toNat_lowSix_imm (imm : Imm) : (imm.extractLsb' 0 6).toNat = (imm.signExtend 64).toNat % 64 := by
  rw [← toNat_lowSix, extractLsb'_zero_signExtend imm (by decide) (by decide)]

/-! ## The statements -/

/-- Settles O7: as O2, with the operand forms of class ALU64. -/
theorem alu64BitwiseMoveResult : Obligations.Alu64BitwiseMoveResult := by
  unfold Obligations.Alu64BitwiseMoveResult
  refine ⟨fun d imm s x hx => ⟨?orK, ?andK, ?xorK⟩, fun d r s x y hx hy => ⟨?orX, ?andX, ?xorX⟩,
    fun d imm s => ?movK, fun d r s y hy => ⟨?movX, ?movsx8, ?movsx16, ?movsx32⟩⟩
  case orK | andK | xorK => exact next_alu64K hx rfl
  case orX | andX | xorX => exact next_alu64X hx hy rfl
  case movK => exact congrArg Host.Outcome.next (advance_setReg s d (sext64 imm))
  case movX | movsx8 | movsx16 | movsx32 => exact next_readReg_of_val hy

/-- Settles O10: each instruction by the lemma of its operand form and of its law, where `64 = 2 ^ 6`. -/
theorem alu64ShiftResult : Obligations.Alu64ShiftResult := by
  unfold Obligations.Alu64ShiftResult
  have width : 64 = 2 ^ 6 := rfl
  refine ⟨fun d imm s x hx => ⟨?lshK, ?rshK, ?arshK⟩, fun d r s x y hx hy => ⟨?lshX, ?rshX, ?arshX⟩⟩
  case lshK => exact next_alu64K hx (lshN_eq_shiftLeft _ _ width)
  case rshK => exact next_alu64K hx (rshN_eq_ushiftRight _ _ width)
  case arshK => exact next_alu64K hx (arshN_eq_sshiftRight _ _ width)
  case lshX => exact next_alu64X hx hy (lshN_eq_shiftLeft _ _ width)
  case rshX => exact next_alu64X hx hy (rshN_eq_ushiftRight _ _ width)
  case arshX => exact next_alu64X hx hy (arshN_eq_sshiftRight _ _ width)

/-- Settles O11: a remainder by zero is the dividend, and writing the destination's own value leaves it as it was. -/
theorem alu64ModByZeroUnchanged : Obligations.Alu64ModByZeroUnchanged := by
  unfold Obligations.Alu64ModByZeroUnchanged
  intro d r s x hx
  rw [← wrote_of_getReg hx]
  refine ⟨⟨?modK, ?smodK, ?divK, ?sdivK⟩, fun hzero => ⟨?modX, ?smodX, ?divX, ?sdivX⟩⟩
  case modK => exact next_alu64K hx (modN_zero x)
  case smodK => exact next_alu64K hx (smodN_zero x)
  case divK => exact next_alu64K hx (divN_zero x)
  case sdivK => exact next_alu64K hx (sdivN_zero x)
  case modX => exact next_alu64X hx hzero (modN_zero x)
  case smodX => exact next_alu64X hx hzero (smodN_zero x)
  case divX => exact next_alu64X hx hzero (divN_zero x)
  case sdivX => exact next_alu64X hx hzero (sdivN_zero x)

/-- Settles O12: bits 5:0 of the operand are the count modulo 64 of O10. -/
theorem alu64ShiftCountMasked : Obligations.Alu64ShiftCountMasked := by
  unfold Obligations.Alu64ShiftCountMasked
  obtain ⟨hK, hX⟩ := alu64ShiftResult
  refine ⟨fun d imm s x hx => ?immediate, fun d r s x y hx hy => ?register⟩
  case immediate =>
    rw [toNat_lowSix_imm]
    exact hK d imm s x hx
  case register =>
    rw [toNat_lowSix]
    exact hX d r s x y hx hy

end Sys2Proof.Machine
end

section
/-! The unconditional jumps: the signed reading of a displacement written out from its unsigned one, and the next states
of JA and JA32. -/
namespace Sys2Proof.Machine

/-- A word whose top bit is clear reads as its unsigned number, any other as that number less `2 ^ width`. -/
theorem toInt_eq_ite_two_pow {k : Nat} (x : BitVec (k + 1)) :
    x.toInt = if x.toNat < 2 ^ k then (x.toNat : Int) else (x.toNat : Int) - 2 ^ (k + 1) := by
  have topBitClear : 2 * x.toNat < 2 ^ (k + 1) ↔ x.toNat < 2 ^ k := by omega
  simp only [BitVec.toInt_eq_toNat_cond, topBitClear, Nat.cast_pow, Nat.cast_ofNat]

/-- JA only sets `pc`, to a target it does not check (R202, R203, R205). -/
theorem exec_ja (off : Off) (s : State) : exec (.ja off) s = .next (wentTo s (offTarget s.pc off)) := rfl

/-- JA32 only sets `pc`, to a target it does not check (R202, R203, R206). -/
theorem exec_ja32 (imm : Imm) (s : State) : exec (.ja32 imm) s = .next (wentTo s (immTarget s.pc imm)) := rfl

/-- Settles O14: both targets by the signed reading of the displacement, at 16 bits and at 32. -/
theorem unconditionalJumpTarget : Obligations.UnconditionalJumpTarget := by
  unfold Obligations.UnconditionalJumpTarget
  refine ⟨fun off s => ?ja, fun imm s => ?ja32⟩
  case ja => rw [exec_ja, offTarget, toInt_eq_ite_two_pow (k := 15)]
  case ja32 => rw [exec_ja32, immTarget, toInt_eq_ite_two_pow (k := 31)]

end Sys2Proof.Machine
end

section
/-! Helper calls, and how a run ends: what becomes of the run status, and where no further step exists. -/
namespace Sys2Proof.Machine

/-! ## Helper calls

One rule for both id spaces: a statement about CALL_HELPER is the rule at `.staticId`, one about CALL_BTF the rule at
`.btfId`. -/

theorem exec_callHelper (id : Imm) (s : State) : exec (.callHelper id) s = .next (callHelper .staticId id s) := rfl

theorem exec_callBtf (id : Imm) (s : State) : exec (.callBtf id) s = .next (callHelper .btfId id s) := rfl

section
variable {kind : HelperKind} {id : Imm} {s : State}

/-- An id outside the domain of `HELPERS` stops the run (R261, R263). -/
theorem callHelper_of_unknown (hid : (kind, id) ∉ s.plat.helpers) :
    callHelper kind id s = stopped s (.unknownHelper kind id) := by
  rw [callHelper, if_neg hid]
  rfl

/-- A helper that refuses stops the run (R261, R263). -/
theorem callHelper_of_fault (hid : (kind, id) ∈ s.plat.helpers) (hreply : nextReply s kind id = .fault) :
    callHelper kind id s = stopped s (.helperFault kind id) := by
  rw [callHelper, if_pos hid, hreply]
  rfl

/-- A helper that answers leaves its registers and bytes, and `pc` moves on (R261, R263). -/
theorem callHelper_of_done {x : RegFile} {ws : List (Word × Byte)} (hid : (kind, id) ∈ s.plat.helpers)
    (hreply : nextReply s kind id = .done x ws) : callHelper kind id s = advance (helperDone s x ws) := by
  rw [callHelper, if_pos hid, hreply]

end

/-- Settles O20: `callHelper_of_done` in both id spaces. -/
theorem helperCallCompletes : Obligations.HelperCallCompletes := by
  unfold Obligations.HelperCallCompletes
  refine fun id s x ws => ⟨fun hid hreply => ?static, fun hid hreply => ?btf⟩
  case static => rw [exec_callHelper, callHelper_of_done hid hreply]; rfl
  case btf => rw [exec_callBtf, callHelper_of_done hid hreply]; rfl

/-- Settles O21: `callHelper_of_unknown` and `callHelper_of_fault` in both id spaces. -/
theorem helperCallFaults : Obligations.HelperCallFaults := by
  unfold Obligations.HelperCallFaults
  refine fun id s => ⟨fun hid => ?_, fun hid => ?_, fun hid hreply => ?_, fun hid hreply => ?_⟩
  · rw [exec_callHelper, callHelper_of_unknown hid]
  · rw [exec_callBtf, callHelper_of_unknown hid]
  · rw [exec_callHelper, callHelper_of_fault hid hreply]
  · rw [exec_callBtf, callHelper_of_fault hid hreply]

/-! ## The run status -/

/-- Only a fault and EXIT with an empty call stack touch the run status, and nothing else with it (R264, R401). -/
theorem Effect.st_eq_or {i : Instr} {s t : State} (h : Effect i s t) :
    t.st = s.st ∨ (∃ c, t = raise c s) ∨ (i = .exit ∧ s.cs = [] ∧ t = endRun s) := by
  cases h with
  | raised c => exact .inr (.inl ⟨c, rfl⟩)
  | ended hexit hcs => exact .inr (.inr ⟨hexit, hcs, rfl⟩)
  | moved | stored | helped | called | returned => exact .inl rfl

/-- Settles O52: from a running state neither a kept status nor a fault's is `exited`. -/
theorem onlyExitEndsRun : Obligations.OnlyExitEndsRun := by
  unfold Obligations.OnlyExitEndsRun
  intro i s t hrun hexec hexited
  rcases (exec_effect hexec).st_eq_or with hkept | ⟨c, rfl⟩ | hended
  · rw [hkept, hrun] at hexited
    cases hexited
  · rw [raise_st] at hexited
    cases hexited
  · exact hended

/-! ## No further step -/

/-- A packet instruction answers a next state or a refusal (R361). -/
theorem packetAccess_ne_fault (name : String) (s : State) (f : Fault) : packetAccess name s ≠ .fault f := by
  unfold packetAccess
  split <;> exact nofun

/-- No instruction answers a fault of the model: each answers a next state, the packet instructions that or a
refusal. -/
theorem exec_ne_fault (i : Instr) (s : State) (f : Fault) : exec i s ≠ .fault f := by
  cases i with
  | ldabsw | ldabsh | ldabsb | ldindw | ldindh | ldindb => exact packetAccess_ne_fault _ s f
  | _ => exact nofun

theorem runInstruction_ne_fault (s : State) (f : Fault) : runInstruction s ≠ .fault f := by
  unfold runInstruction
  split
  next i _ => exact exec_ne_fault i s f
  next => exact nofun

theorem step_of_exited {s : State} (h : s.st = .exited) : step s = .fault .runExited := by
  rw [step, h]

theorem step_of_faulted {s : State} {c : Cause} {p : Int} (h : s.st = .faulted c p) : step s = .fault .runFaulted := by
  rw [step, h]

/-- Settles O50: the two ends, and a running state, whose step is the run of an instruction. -/
theorem noStepAfterTheEnd : Obligations.NoStepAfterTheEnd := by
  unfold Obligations.NoStepAfterTheEnd
  refine fun s => ⟨step_of_exited, fun c p => step_of_faulted, fun hrun f => ?_⟩
  rw [step_of_running hrun]
  exact runInstruction_ne_fault (envTick s) f

end Sys2Proof.Machine
end

section
/-! The zero-extending loads and the stores of an immediate. -/
namespace Sys2Proof.Machine

/-! ## Zero-extending loads -/

/-- Settles O26: the four MEM loads are `load` with zero extension at their width. -/
theorem loadZeroExtends : Obligations.LoadZeroExtends := by
  unfold Obligations.LoadZeroExtends
  intro d r off s base i z hrow hbase hadm
  have hexec : exec i s = .next (load z zext64 d r off s) :=
    forall_rows (fun i z => exec i s = .next (load z zext64 d r off s)) hrow ⟨rfl, rfl, rfl, rfl⟩
  obtain ⟨v, hv, hload⟩ := load_of_admitted zext64 d hbase hadm
  exact ⟨v, hv, hexec.trans (congrArg _ hload)⟩

/-! ## Stores of an immediate -/

/-- A store of an immediate leaves the low bytes of the sign-extended immediate at the effective address (R283). -/
theorem storeImmediate_of_admitted {z : Size} {d : RegIdx} {off : Off} {imm : Imm} {s : State} {base : Word}
    (hm : memoryWf s.mem = true) (hd : getReg s.regs d = .val base)
    (hadm : Admitted s (effectiveAddress base off) z .write) :
    ∃ m, storeImmediate z d off imm s = wroteMem s m ∧
      Stored s.plat.endian s.mem m (effectiveAddress base off) (sizeBytes z) (storeImm z imm) := by
  refine ⟨_, ?_, stored_storeValue hm _ _ z _⟩
  rw [storeImmediate, readReg_of_val hd, memWrite_of_admitted _ hadm, orRaise_ok]
  rfl

/-- Settles O28: each row is `storeImmediate` at its width. -/
theorem storeImmediateWritesBytes : Obligations.StoreImmediateWritesBytes := by
  unfold Obligations.StoreImmediateWritesBytes
  intro d off imm s base i z hrow hm hd hadm
  obtain ⟨m, hnext, hstored⟩ := storeImmediate_of_admitted hm hd hadm
  exact ⟨m, (exec_of_mem_storeImmediateRows hrow).trans (congrArg _ hnext), hstored⟩

end Sys2Proof.Machine
end

section
/-! The 64-bit immediate lookups, defined and undefined; the packet instructions and the second slot, whose only next
state is a fault. -/
namespace Sys2Proof.Machine

/-! ## Platform lookups (R341) -/

section
variable {α : Type} [BEq α] {table : List (α × Word)} {key : α} {fn : LookupFn} {arg : LookupArg}

theorem lookupOr_of_some {v : Word} (h : table.lookup key = some v) : lookupOr table key fn arg = .ok v := by
  rw [lookupOr, h]

theorem lookupOr_of_none (h : table.lookup key = none) :
    lookupOr table key fn arg = .error (.platformLookupFault fn arg) := by
  rw [lookupOr, h]

end

/-! ## Which lookup each instruction makes (R343 to R348) -/

section
variable (d : RegIdx) (imm nextImm : Imm) (s : State)

theorem exec_lddwMapFd : exec (.lddwMapFd d imm) s =
    .next (loadLookup (lookupOr s.plat.mapByFd imm .mapByFd (.imm imm)) d s) := rfl

theorem exec_lddwMapIdx : exec (.lddwMapIdx d imm) s =
    .next (loadLookup (lookupOr s.plat.mapByIdx imm .mapByIdx (.imm imm)) d s) := rfl

theorem exec_lddwVar : exec (.lddwVar d imm) s =
    .next (loadLookup (lookupOr s.plat.varAddr imm .varAddr (.imm imm)) d s) := rfl

theorem exec_lddwCode : exec (.lddwCode d imm) s =
    .next (loadLookup (lookupOr s.plat.codeAddr (s.pc, imm) .codeAddr (.code s.pc imm)) d s) := rfl

theorem exec_lddwMapFdVal : exec (.lddwMapFdVal d imm nextImm) s =
    .next (loadMapValue (lookupOr s.plat.mapByFd imm .mapByFd (.imm imm)) d nextImm s) := rfl

theorem exec_lddwMapIdxVal : exec (.lddwMapIdxVal d imm nextImm) s =
    .next (loadMapValue (lookupOr s.plat.mapByIdx imm .mapByIdx (.imm imm)) d nextImm s) := rfl

/-! ## What a lookup leaves -/

theorem putWide_eq (v : Word) : putWide s d v = { s with regs := putReg s.regs d (.val v), pc := s.pc + 2 } := rfl

/-- Adding `zext_64(next_imm)` is the sum of the two numbers modulo 2^64 (R344, R348; decision D36). -/
theorem add_zext64_eq_ofNat (a : Word) : a + zext64 nextImm = BitVec.ofNat 64 (a.toNat + nextImm.toNat) := by
  rw [BitVec.ofNat_add, BitVec.ofNat_toNat, BitVec.setWidth_eq, BitVec.ofNat_toNat, zext64]

end

section
variable {α : Type} [BEq α] {table : List (α × Word)} {key : α} {fn : LookupFn} {arg : LookupArg}
variable {d : RegIdx} {nextImm : Imm} {s : State} {a m : Word}

/-- A lookup that is defined writes its value to the destination, two slots on (R340, R341). -/
theorem loadLookup_of_some (h : table.lookup key = some a) :
    loadLookup (lookupOr table key fn arg) d s = putWide s d a := by
  rw [lookupOr_of_some h, loadLookup, orRaise_ok]

/-- A lookup that is undefined stops the run (R341, R409). -/
theorem loadLookup_of_none (h : table.lookup key = none) :
    loadLookup (lookupOr table key fn arg) d s = stopped s (.platformLookupFault fn arg) := by
  rw [lookupOr_of_none h]
  rfl

/-- A map that is found and has a value: the value's address plus `next_imm` is written (R344, R348). -/
theorem loadMapValue_of_some (hmap : table.lookup key = some m) (hval : s.plat.mapVal.lookup m = some a) :
    loadMapValue (lookupOr table key fn arg) d nextImm s =
      putWide s d (BitVec.ofNat 64 (a.toNat + nextImm.toNat)) := by
  rw [lookupOr_of_some hmap, loadMapValue, orRaise_ok, lookupOr_of_some hval, orRaise_ok, add_zext64_eq_ofNat]

/-- A map that is not found stops the run before `map_val` is asked (R411). -/
theorem loadMapValue_of_none (hmap : table.lookup key = none) :
    loadMapValue (lookupOr table key fn arg) d nextImm s = stopped s (.platformLookupFault fn arg) := by
  rw [lookupOr_of_none hmap]
  rfl

/-- A map that is found and has no value stops the run with the fault of `map_val` (R341, R409). -/
theorem loadMapValue_of_val_none (hmap : table.lookup key = some m) (hval : s.plat.mapVal.lookup m = none) :
    loadMapValue (lookupOr table key fn arg) d nextImm s = stopped s (.platformLookupFault .mapVal (.map m)) := by
  rw [lookupOr_of_some hmap, loadMapValue, orRaise_ok, lookupOr_of_none hval]
  rfl

end

/-- Settles O39: four instructions load one lookup's value, the two VAL forms the address `map_val` gives. -/
theorem loadLookupResult : Obligations.LoadLookupResult := by
  unfold Obligations.LoadLookupResult
  refine fun d imm nextImm s => ⟨fun a h => ?mapFd, fun a h => ?mapIdx, fun a h => ?var, fun a h => ?code,
    fun m a hmap hval => ?mapFdVal, fun m a hmap hval => ?mapIdxVal⟩
  case mapFd => rw [exec_lddwMapFd, loadLookup_of_some h, putWide_eq]
  case mapIdx => rw [exec_lddwMapIdx, loadLookup_of_some h, putWide_eq]
  case var => rw [exec_lddwVar, loadLookup_of_some h, putWide_eq]
  case code => rw [exec_lddwCode, loadLookup_of_some h, putWide_eq]
  case mapFdVal => rw [exec_lddwMapFdVal, loadMapValue_of_some hmap hval, putWide_eq]
  case mapIdxVal => rw [exec_lddwMapIdxVal, loadMapValue_of_some hmap hval, putWide_eq]

/-- Settles O40: a lookup that is undefined, and for the two VAL forms the map before `map_val`. -/
theorem lookupUndefinedFaults : Obligations.LookupUndefinedFaults := by
  unfold Obligations.LookupUndefinedFaults
  refine fun d imm nextImm s => ⟨fun h => ?mapFd, fun h => ?mapIdx, fun h => ?var, fun h => ?code,
    fun hmap => ?fdNoMap, fun m hmap hval => ?fdNoVal, fun hmap => ?idxNoMap, fun m hmap hval => ?idxNoVal⟩
  case mapFd => rw [exec_lddwMapFd, loadLookup_of_none h]
  case mapIdx => rw [exec_lddwMapIdx, loadLookup_of_none h]
  case var => rw [exec_lddwVar, loadLookup_of_none h]
  case code => rw [exec_lddwCode, loadLookup_of_none h]
  case fdNoMap => rw [exec_lddwMapFdVal, loadMapValue_of_none hmap]
  case fdNoVal => rw [exec_lddwMapFdVal, loadMapValue_of_val_none hmap hval]
  case idxNoMap => rw [exec_lddwMapIdxVal, loadMapValue_of_none hmap]
  case idxNoVal => rw [exec_lddwMapIdxVal, loadMapValue_of_val_none hmap hval]

/-! ## The packet instructions and the second slot (R349, R361, R406) -/

/-- No group includes `packet`, so it is supported exactly where it is named (R3). -/
theorem supports_packet_iff {gs : List Group} : supports gs .packet = true ↔ .packet ∈ gs := by
  have hinc (h : Group) : .packet ∉ h.included := by cases h <;> decide
  simp [supports_iff, hinc]

section
variable {name : String} {s : State}

theorem packetAccess_of_not_mem (h : .packet ∉ s.plat.groups) :
    packetAccess name s = .next (stopped s (.illegalInstruction s.pc)) := by
  rw [packetAccess, if_neg (mt supports_packet_iff.mp h)]
  rfl

theorem packetAccess_of_mem (h : .packet ∈ s.plat.groups) : packetAccess name s = .refused (.packetSemantics name) := by
  rw [packetAccess, if_pos (supports_packet_iff.mpr h)]

end

theorem exec_imm64SecondSlot (nextImm : Imm) (s : State) :
    exec (.imm64SecondSlot nextImm) s = .next (stopped s (.illegalInstruction s.pc)) := rfl

/-- Settles O41: each of the six rows is `packetAccess` at its name, with and without the group. -/
theorem packetAndSecondSlotStop : Obligations.PacketAndSecondSlotStop := by
  unfold Obligations.PacketAndSecondSlotStop
  intro r imm s i name hrow
  have hexec : exec i s = packetAccess name s :=
    forall_rows (fun i name => exec i s = packetAccess name s) hrow ⟨rfl, rfl, rfl, rfl, rfl, rfl⟩
  exact ⟨fun h => hexec.trans (packetAccess_of_not_mem h), fun h => hexec.trans (packetAccess_of_mem h),
    exec_imm64SecondSlot imm s⟩

end Sys2Proof.Machine
end

section
/-! Faults are precise: a fault changes the run status and nothing else. -/
namespace Sys2Proof.Machine

/-- Raising a fault is the stopped state of the statements (R401). -/
theorem raise_eq_stopped (c : Cause) (s : State) : raise c s = stopped s c := rfl

/-- Settles O51: of the ways to a next state (`Effect.st_eq_or`), only a raised fault ends a running state as
`faulted`. -/
theorem faultsArePrecise : Obligations.FaultsArePrecise := by
  unfold Obligations.FaultsArePrecise
  intro i s t hrun hexec c p hfaulted
  rcases (exec_effect hexec).st_eq_or with hkept | ⟨cause, rfl⟩ | ⟨-, -, rfl⟩
  · rw [hkept, hrun] at hfaulted
    cases hfaulted
  · rw [raise_st] at hfaulted
    cases hfaulted
    exact ⟨rfl, raise_eq_stopped c s⟩
  · rw [endRun_st] at hfaulted
    cases hfaulted

end Sys2Proof.Machine
end
